-- ==== Sys2Proof/Word.lean ====
section
/-! DEFINITION. The word types of the block: bus bytes, bus addresses, host operation words, and the
four-bit fields of an operation word. Nothing here computes; what could need mending stands in
Decode.lean and under Machine/. -/

namespace Sys2Proof

/-- One byte of the display bus (R61, R66). -/
abbrev Byte := BitVec 8

/-- A display bus address: 0 is command/status, 1 is data (R60, R62). -/
abbrev BusAddr := BitVec 1

/-- A host operation word, format H (R91). -/
abbrev OpWord := BitVec 16

/-- A four-bit field of an operation word: OPC or SUB (R91). -/
abbrev Nibble := BitVec 4

/-- An agreement counter: CNT_W = 4 bits, unsigned (R7, R23). -/
abbrev Count := BitVec 4

end Sys2Proof
end

