-- ==== Sys2Proof/Syntax.lean ====
section
/-! DEFINITION. The ten host operations of MDB-OPS version 1 (R94). The three events SAMPLE, TICK and
RESET have no operation word (R99); they are slots of the schedule (Machine/Agents.lean). -/

namespace Sys2Proof

/-- The host operations, one constructor per row of R94's table. `c` is the channel number field
w[11:8] as it stands in the word (R92); which values are legal is `Instr.wellFormed`. -/
inductive Instr where
  | wrcmd (imm8 : Byte)
  | wrdata (imm8 : Byte)
  | rdstat (a : BusAddr)
  | init
  | rdbtn (c : Nibble)
  | rdch (c : Nibble)
  | smpdis
  | smpen
  | rdtick
  | clrtick
  deriving DecidableEq, Repr

end Sys2Proof
end

