-- ==== Sys2Proof/WellFormed.lean ====
section
/-! DEFINITION. Which instruction terms are operations of the block: the operand constraints in the
last column of R94's table. -/

namespace Sys2Proof

/-- Legal channel numbers are 1 and 2, "button 1" and "button 2" (R92, R96). -/
def legalChannel (c : Nibble) : Bool := c == 1 || c == 2

/-- The operand constraints of R94: only the channel number of RDBTN and RDCH has one; every byte is
legal for WRCMD and WRDATA, and the one address bit of RDSTAT admits both addresses. -/
def Instr.wellFormed : Instr → Bool
  | .wrcmd _ => true
  | .wrdata _ => true
  | .rdstat _ => true
  | .init => true
  | .rdbtn c => legalChannel c
  | .rdch c => legalChannel c
  | .smpdis => true
  | .smpen => true
  | .rdtick => true
  | .clrtick => true

end Sys2Proof
end

