-- ==== Sys2Proof/Decode.lean ====
section
/-! DEFINITION. Decoding of host operation words (R105), total on all 65536 words and rejecting by
name; the encoder, written from R94's exact words; R94's match and mask columns; R96's list of illegal
words; the assembler text (R103) and the pseudo-operations (R104). -/

namespace Sys2Proof

/-- Why a word is illegal, one name per condition of R96. The block answers all of them alike,
`Respond(ILLEGAL, 0)` (R212), so the names are the model's only (log entry 13). -/
inductive Reject where
  /-- OPC is 0x0 or 0xB..0xF. -/
  | reservedOpcode (opc : Nibble)
  /-- SUB must be zero for this OPC and is not. -/
  | subNotZero (opc sub : Nibble)
  /-- RDSTAT with w[11:9] not zero: a bus address other than 0 and 1. -/
  | noSuchAddress (sub : Nibble)
  /-- RDBTN or RDCH with a channel number other than 1 and 2. -/
  | noSuchChannel (c : Nibble)
  /-- IMM8 must be zero for this OPC and is not. -/
  | immNotZero (opc : Nibble) (imm8 : Byte)
  deriving DecidableEq, Repr

/-- OPC = w[15:12], the major opcode (R91). -/
def OpWord.opc (w : OpWord) : Nibble := w.extractLsb' 12 4

/-- SUB = w[11:8], the small operand (R91). -/
def OpWord.sub (w : OpWord) : Nibble := w.extractLsb' 8 4

/-- IMM8 = w[7:0], the byte operand, used as is (R91, R92). -/
def OpWord.imm (w : OpWord) : Byte := w.extractLsb' 0 8

/-- w[8], the bus address of RDSTAT (R92). -/
def OpWord.addr (w : OpWord) : BusAddr := w.extractLsb' 8 1

/-- w[11:9], which must be 0 in RDSTAT (R92). -/
def OpWord.addrHigh (w : OpWord) : BitVec 3 := w.extractLsb' 9 3

/-- An operation with no operand: SUB and IMM8 must be zero (R96). -/
def decodeBare (w : OpWord) (i : Instr) : Except Reject Instr :=
  if OpWord.sub w = 0 then
    if OpWord.imm w = 0 then .ok i else .error (.immNotZero (OpWord.opc w) (OpWord.imm w))
  else .error (.subNotZero (OpWord.opc w) (OpWord.sub w))

/-- An operation with a byte operand: SUB must be zero (R96). -/
def decodeByte (w : OpWord) (mk : Byte → Instr) : Except Reject Instr :=
  if OpWord.sub w = 0 then .ok (mk (OpWord.imm w))
  else .error (.subNotZero (OpWord.opc w) (OpWord.sub w))

/-- An operation with a channel number: SUB in {1, 2} and IMM8 zero (R96). -/
def decodeChannel (w : OpWord) (mk : Nibble → Instr) : Except Reject Instr :=
  if legalChannel (OpWord.sub w) then
    if OpWord.imm w = 0 then .ok (mk (OpWord.sub w))
    else .error (.immNotZero (OpWord.opc w) (OpWord.imm w))
  else .error (.noSuchChannel (OpWord.sub w))

/-- RDSTAT: w[11:9] and IMM8 zero, the address in w[8] (R92, R96). -/
def decodeStatus (w : OpWord) : Except Reject Instr :=
  if OpWord.addrHigh w = 0 then
    if OpWord.imm w = 0 then .ok (.rdstat (OpWord.addr w))
    else .error (.immNotZero (OpWord.opc w) (OpWord.imm w))
  else .error (.noSuchAddress (OpWord.sub w))

/-- The decoding algorithm of R105, case by case. -/
def decode (w : OpWord) : Except Reject Instr :=
  match (OpWord.opc w).toNat with
  | 0x1 => decodeByte w .wrcmd
  | 0x2 => decodeByte w .wrdata
  | 0x3 => decodeStatus w
  | 0x4 => decodeBare w .init
  | 0x5 => decodeChannel w .rdbtn
  | 0x6 => decodeChannel w .rdch
  | 0x7 => decodeBare w .smpdis
  | 0x8 => decodeBare w .smpen
  | 0x9 => decodeBare w .rdtick
  | 0xA => decodeBare w .clrtick
  | _ => .error (.reservedOpcode (OpWord.opc w))

/-- Format H (R91): OPC, SUB and IMM8 side by side, OPC in the high bits. -/
def formatH (opc sub : Nibble) (imm8 : Byte) : OpWord := opc ++ sub ++ imm8

/-- The word of an operation, from "the exact words" of R94. -/
def encode : Instr → OpWord
  | .wrcmd imm8 => formatH 0x1 0 imm8
  | .wrdata imm8 => formatH 0x2 0 imm8
  | .rdstat a => formatH 0x3 (a.setWidth 4) 0
  | .init => formatH 0x4 0 0
  | .rdbtn c => formatH 0x5 c 0
  | .rdch c => formatH 0x6 c 0
  | .smpdis => formatH 0x7 0 0
  | .smpen => formatH 0x8 0 0
  | .rdtick => formatH 0x9 0 0
  | .clrtick => formatH 0xA 0 0

/-- The match column of R94. -/
def Instr.matchBits : Instr → OpWord
  | .wrcmd _ => 0x1000
  | .wrdata _ => 0x2000
  | .rdstat _ => 0x3000
  | .init => 0x4000
  | .rdbtn _ => 0x5000
  | .rdch _ => 0x6000
  | .smpdis => 0x7000
  | .smpen => 0x8000
  | .rdtick => 0x9000
  | .clrtick => 0xA000

/-- The mask column of R94. -/
def Instr.maskBits : Instr → OpWord
  | .wrcmd _ => 0xFF00
  | .wrdata _ => 0xFF00
  | .rdstat _ => 0xFEFF
  | .init => 0xFFFF
  | .rdbtn _ => 0xF0FF
  | .rdch _ => 0xF0FF
  | .smpdis => 0xFFFF
  | .smpen => 0xFFFF
  | .rdtick => 0xFFFF
  | .clrtick => 0xFFFF

/-- R96's own list of the illegal words, written apart from `decode` and in numbers: bits 15:12 are
`w / 4096`, bits 11:8 `w / 256 % 16`, bits 11:9 `w / 512 % 8`, bits 11:0 `w % 4096`, bits 7:0
`w % 256`. -/
def illegalNumber (w : Nat) : Bool :=
  let opc := w / 4096
  let sub := w / 256 % 16
  opc == 0x0 || decide (0xB ≤ opc)
    || (opc == 0x3 && (w / 512 % 8 != 0 || w % 256 != 0))
    || ((opc == 0x4 || opc == 0x7 || opc == 0x8 || opc == 0x9 || opc == 0xA) && w % 4096 != 0)
    || ((opc == 0x5 || opc == 0x6) && (!(sub == 1 || sub == 2) || w % 256 != 0))
    || ((opc == 0x1 || opc == 0x2) && sub != 0)

/-- The word that stands for an opcode-table row's bits: the low `nbits` of `w`, and zeros above. -/
def tableWord (nbits w : Nat) : OpWord := BitVec.ofNat 16 (w % 2 ^ nbits)

/-- What the decoder reads from a row of the opcode table. A host word has one length, 16 bits (R90),
so a row wider than that would be no operation. -/
def decodeTableWord (nbits w : Nat) : Option Instr :=
  if nbits ≤ 16 then (decode (tableWord nbits w)).toOption else none

/-- The mnemonic of R94. -/
def Instr.mnemonic : Instr → String
  | .wrcmd _ => "WRCMD"
  | .wrdata _ => "WRDATA"
  | .rdstat _ => "RDSTAT"
  | .init => "INIT"
  | .rdbtn _ => "RDBTN"
  | .rdch _ => "RDCH"
  | .smpdis => "SMPDIS"
  | .smpen => "SMPEN"
  | .rdtick => "RDTICK"
  | .clrtick => "CLRTICK"

/-- The operand of an operation as the number R103 writes after the mnemonic, where it has one. -/
def Instr.operand : Instr → Option Nat
  | .wrcmd imm8 => some imm8.toNat
  | .wrdata imm8 => some imm8.toNat
  | .rdstat a => some a.toNat
  | .init => none
  | .rdbtn c => some c.toNat
  | .rdch c => some c.toNat
  | .smpdis => none
  | .smpen => none
  | .rdtick => none
  | .clrtick => none

/-- One line of a host program in the syntax of R103: the mnemonic, then the operand in decimal. -/
def Instr.assemblerText (i : Instr) : String :=
  match i.operand with
  | some n => i.mnemonic ++ " " ++ toString n
  | none => i.mnemonic

/-- `WRSTR s` (R104, R131): one WRDATA per character, in order; nothing for the empty string, and no
terminator. -/
def wrstr (s : List Byte) : List Instr := s.map .wrdata

/-- `SNAPSHOT` (R104, R166): the bracketed read of both buttons. -/
def snapshot : List Instr := [.smpdis, .rdbtn 1, .rdbtn 2, .smpen]

end Sys2Proof
end

