-- ==== Sys2Proof/Machine/Agents.lean ====
section
/-! DEFINITION. The agents that take steps (R9), as slots of a schedule. -/

namespace Sys2Proof.Machine

/-- One slot of the schedule: the agent whose turn it is (R9), with the inputs that arrive with that
turn. All steps of all agents form one order (R11), and a slot is one place in it. -/
inductive Slot where
  /-- HOST: issues its next operation word, if none is in flight (R10, R32). -/
  | host
  /-- ENGINE: one micro-step of the display operation in flight (R9). -/
  | engine
  /-- SAMPLER: the SAMPLE event, with the levels of the two pins at this step (R80, R160). -/
  | sample (btn1 btn2 : Bool)
  /-- TICKER: the TICK event (R190). -/
  | tick
  /-- RESETTER: the RESET event (R250). -/
  | reset
  deriving DecidableEq, Repr, Inhabited

end Sys2Proof.Machine
end

