-- ==== Sys2Proof/Config.lean ====
section
/-! DEFINITION. The parameters of R7, and the free values: what the spec leaves to the platform, the
display device, the pins and the schedule, as constants without a body. -/

namespace Sys2Proof

/-- DB_THRESH: the agreement count at which the stable state commits (R7). -/
def Config.dbThresh : Nat := 10

/-- The default of TICK_W, the width of TICK: "32, a named parameter the model may take as an argument"
(R7, R27, R193). PRESUMED: the spec's default, from general knowledge (D6, G9); unsafe, log entry 6. The
machine takes any width: it is that of the register it is given (`TickWord`). -/
def Config.tickW : Nat := 32

/-- The least TICK_W: "constraint TICK_W >= 13", so that 4000 is representable (R7, R193). -/
def Config.tickWMin : Nat := 13

/-- ADDR_CMD: the bus address of the command and status register (R7, R62). -/
def Config.addrCmd : BusAddr := 0

/-- ADDR_DATA: the bus address of the data register (R7, R62). -/
def Config.addrData : BusAddr := 1

/-- BF_BIT: the bit of the status byte that holds the busy flag (R7, R63). -/
def Config.bfBit : Nat := 7

/-- The default of CMD_FUNCTION_SET (R101). PRESUMED: the spec's default, from general knowledge; unsafe, log entry 7. -/
def Config.cmdFunctionSet : Byte := 0x38

/-- The default of CMD_DISPLAY_CTRL (R101). PRESUMED: the spec's default, from general knowledge; unsafe, log entry 7. -/
def Config.cmdDisplayCtrl : Byte := 0x0C

/-- The default of CMD_CLEAR (R101). PRESUMED: the spec's default, from general knowledge; unsafe, log entry 7. -/
def Config.cmdClear : Byte := 0x01

/-- The default of CMD_ENTRY_MODE (R101). PRESUMED: the spec's default, from general knowledge; unsafe, log entry 7. -/
def Config.cmdEntryMode : Byte := 0x06

/-- The four command bytes that INIT writes: open parameters of the model, "names" that every rule uses
in place of the bytes (R7, R101, D19, U12). A machine is given any four; the defaults are the spec's. -/
structure CommandBytes where
  /-- CMD_FUNCTION_SET. -/
  functionSet : Byte := Config.cmdFunctionSet
  /-- CMD_DISPLAY_CTRL. -/
  displayCtrl : Byte := Config.cmdDisplayCtrl
  /-- CMD_CLEAR. -/
  clear : Byte := Config.cmdClear
  /-- CMD_ENTRY_MODE. -/
  entryMode : Byte := Config.cmdEntryMode
  deriving DecidableEq, Repr

/-- T_POWERON in microseconds: 30 ms (R7, R129). The label of a Dly entry; no time passes (log entry 8). -/
def Config.tPowerOn : Nat := 30000

/-- T_SETTLE_FAST in microseconds: 48 µs (R7, R129). A label (log entry 8). -/
def Config.tSettleFast : Nat := 48

/-- T_SETTLE_SLOW in microseconds: 1.8 ms (R7, R129). A label (log entry 8). -/
def Config.tSettleSlow : Nat := 1800

/-- The slot that comes at the n-th free choice, once the chosen prefix of the schedule is used up
(R12, R38, U8: every order is possible). A free value: no body. -/
opaque Config.freeSlot : Nat → Machine.Slot

/-- The word the host issues at the n-th free choice, once its chosen words are used up (R38). A free
value: no body. -/
opaque Config.freeWord : Nat → OpWord

/-- The byte the DEVICE answers at the n-th free choice (R69, U3). A free value: no body. -/
opaque Config.freeAnswer : Nat → Byte

/-- DARG after a RESET event (R250, R251, U6). A free value: no body. -/
opaque Config.freeDarg : Nat → Byte

/-- DADDR after a RESET event (R250, R251, U6). A free value: no body. -/
opaque Config.freeDaddr : Nat → BusAddr

end Sys2Proof
end

