-- ==== Sys2Proof/Machine/State.lean ====
section
/-! DEFINITION. The state of the block (R20), as plain data, and its value at reset (R40). -/

namespace Sys2Proof.Machine

/-- A word of TICK_W bits with its width: the TICK register, and the data of a response (R27, R95). TICK_W
is an open parameter of the model (R193, D6, U10): a machine has the TICK_W of its TICK register, which no
step changes (log entry 6). -/
structure TickWord where
  /-- TICK_W. -/
  width : Nat
  /-- The value, unsigned (R193). -/
  bits : BitVec width
  deriving DecidableEq, Repr

/-- One ButtonChannel: the four registers of one button (R21 to R24). A level is `true` for 1. -/
structure Channel where
  /-- RAW[c]: the level read by the latest unmasked SAMPLE (R21). -/
  raw : Bool
  /-- PREV[c]: the previous sampled level (R22). -/
  prev : Bool
  /-- CNT[c]: the consecutive-agreement count (R23). -/
  cnt : Count
  /-- STABLE[c]: `true` is 1, Pressed; `false` is 0, Released (R24). -/
  stable : Bool
  deriving DecidableEq, Repr

/-- A channel after reset: all four registers 0 (R40). -/
def Channel.reset : Channel := { raw := false, prev := false, cnt := 0, stable := false }

/-- DSEQ, the sequencer state of the display engine: thirteen values, INIT(k) for k in 0..8 (R30). -/
inductive Dseq where
  | idle
  | poll
  | write
  | read
  | init (k : Fin 9)
  deriving DecidableEq, Repr

/-- An entry of BUSLOG (R16). -/
inductive BusEvent where
  /-- `Rd(a, v)`: one read transaction at address a, answered v. -/
  | rd (a : BusAddr) (v : Byte)
  /-- `Wr(a, v)`: one write transaction of v at address a. -/
  | wr (a : BusAddr) (v : Byte)
  /-- `Dly(d)`: the next micro-step comes no earlier than d microseconds after this one. -/
  | dly (microseconds : Nat)
  deriving DecidableEq, Repr

/-- The status st of a response: 0 = OK, 1 = ILLEGAL (R95). -/
inductive Status where
  | ok
  | illegal
  deriving DecidableEq, Repr

/-- One response `Respond(st, v)` (R15, R95). -/
structure Response where
  status : Status
  data : TickWord
  deriving DecidableEq, Repr

/-- What the world outside the block will do next (R38), as chosen prefixes; past the end of a prefix
the free values of Config are taken, at the counter `fresh`. The model's own data, not the block's
(log entry 1). -/
structure Env where
  /-- The slots to come: whose step is next (R9, R11). -/
  slots : List Slot
  /-- The words the host will issue (R38). -/
  words : List OpWord
  /-- The bytes the DEVICE will answer to bus reads (R38, R69). -/
  answers : List Byte
  /-- How many free values have been taken. -/
  fresh : Nat
  deriving DecidableEq, Repr

/-- The state of the block (R20), with two logs that nothing in the block reads and the environment. -/
structure State where
  /-- Channel 1: RAW[1], PREV[1], CNT[1], STABLE[1]. -/
  ch1 : Channel
  /-- Channel 2: RAW[2], PREV[2], CNT[2], STABLE[2]. -/
  ch2 : Channel
  /-- SMPEN, the sample-event enable (R26). -/
  smpen : Bool
  /-- TICK, and with it TICK_W (R27, R193). -/
  tick : TickWord
  /-- DSEQ (R30). -/
  dseq : Dseq
  /-- DARG (R31). -/
  darg : Byte
  /-- DADDR (R31). -/
  daddr : BusAddr
  /-- BUSLOG, oldest first (R16). -/
  busLog : List BusEvent
  /-- The responses given so far, oldest first (R95; the model's own record, log entry 9). -/
  responses : List Response
  /-- The environment (R38; the model's own data, log entry 1). -/
  env : Env
  /-- The command bytes of INIT: a parameter of the model (R101; log entry 7), which no step writes. -/
  commands : CommandBytes
  deriving DecidableEq, Repr

/-- The block has no trap mechanism (R210), a bus transaction cannot fail and no operation has an
arithmetic, alignment, access or privilege fault (R214): there is no fault, so this type has no
constructor. An illegal word is answered, not trapped (R212); a permanently busy device is an endless
run of legal steps (R213). -/
inductive Fault where
  deriving DecidableEq, Repr

/-- Why a step can be refused. -/
inductive Refusal where
  /-- Raised by `exec` for an operation that has no meaning yet. Safe. No arm raises it. -/
  | notModelled (mnemonic : String)
  /-- Raised by a SAMPLE step that is not masked, when CNT of a channel is DB_THRESH or more: such a
  state "is outside the spec" (R171, U17) and no run reaches it. Safe (log entry 10). -/
  | counterOutOfRange
  deriving DecidableEq, Repr

/-- The environment with nothing chosen: every input is a free value (log entry 1). -/
def Env.unchosen : Env := { slots := [], words := [], answers := [], fresh := 0 }

/-- The state after reset, at the start of a run (R40). DARG and DADDR, which the spec leaves
unspecified, are 0. DESIGN CHOICE, unsafe: log entry 4. TICK_W and the command bytes are the
defaults (log entries 6 and 7). -/
def State.reset : State where
  ch1 := Channel.reset
  ch2 := Channel.reset
  smpen := true
  tick := ⟨Config.tickW, 0⟩
  dseq := .idle
  darg := 0
  daddr := 0
  busLog := []
  responses := []
  env := Env.unchosen
  commands := {}

end Sys2Proof.Machine
end

