-- ==== Sys2Proof/Machine/Ops.lean ====
section
/-! DEFINITION. The named operations over the state: the register writes, the primitives of R15 (bus
read, bus write, wait, respond, raise Illegal), and taking the next input from the environment (R38). -/

namespace Sys2Proof.Machine

/-! ### Words of TICK_W bits -/

/-- TICK_W of this machine: the width of its TICK register (R7, R193). -/
def State.tickW (s : State) : Nat := s.tick.width

/-- The number n as a word of TICK_W bits, modulo 2^TICK_W (R95, R193). -/
def State.word (s : State) (n : Nat) : TickWord := ⟨s.tickW, BitVec.ofNat s.tickW n⟩

/-! ### Register writes (R14) -/

/-- All eight channel registers, in one atomic step (R66). -/
def State.setChannels (s : State) (c1 c2 : Channel) : State := { s with ch1 := c1, ch2 := c2 }

/-- `SMPEN <- b`. -/
def State.setSmpen (s : State) (b : Bool) : State := { s with smpen := b }

/-- `TICK <- t`. -/
def State.setTick (s : State) (t : TickWord) : State := { s with tick := t }

/-- `DSEQ <- d`, "this block's form of pc <- target" (R14). -/
def State.setDseq (s : State) (d : Dseq) : State := { s with dseq := d }

/-- `DARG <- v`. -/
def State.setDarg (s : State) (v : Byte) : State := { s with darg := v }

/-- `DADDR <- a`. -/
def State.setDaddr (s : State) (a : BusAddr) : State := { s with daddr := a }

/-- BUSLOG gets one more entry (R16). -/
def State.appendLog (s : State) (e : BusEvent) : State := { s with busLog := s.busLog ++ [e] }

/-- The environment moves on; the block does not see it. -/
def State.setEnv (s : State) (e : Env) : State := { s with env := e }

/-! ### Inputs (R38): the chosen prefix first, then the free values (log entry 1) -/

/-- One more free value has been taken. -/
def Env.draw (e : Env) : Env := { e with fresh := e.fresh + 1 }

/-- Whose turn it is (R9, R11). -/
def Env.nextSlot (e : Env) : Slot :=
  match e.slots with
  | a :: _ => a
  | [] => Config.freeSlot e.fresh

/-- The environment after that turn has been given. -/
def Env.dropSlot (e : Env) : Env :=
  match e.slots with
  | _ :: rest => { e with slots := rest }
  | [] => e.draw

/-- The word the host issues at its turn. -/
def Env.nextWord (e : Env) : OpWord :=
  match e.words with
  | w :: _ => w
  | [] => Config.freeWord e.fresh

/-- The environment after the host has issued that word. -/
def Env.dropWord (e : Env) : Env :=
  match e.words with
  | _ :: rest => { e with words := rest }
  | [] => e.draw

/-- The byte the DEVICE answers to the bus read of this step (R69). -/
def Env.nextAnswer (e : Env) : Byte :=
  match e.answers with
  | b :: _ => b
  | [] => Config.freeAnswer e.fresh

/-- The environment after that answer. -/
def Env.dropAnswer (e : Env) : Env :=
  match e.answers with
  | _ :: rest => { e with answers := rest }
  | [] => e.draw

/-! ### The primitives of R15 -/

/-- The byte that `MemRead(a, 1)` returns at this step: "whatever the DEVICE answers" (R124). -/
def State.readValue (s : State) : Byte := s.env.nextAnswer

/-- `MemRead(a, 1)`: one read transaction; the answer is used up and `Rd(a, v)` appended (R15). -/
def State.memRead (s : State) (a : BusAddr) : State :=
  (s.setEnv s.env.dropAnswer).appendLog (.rd a s.readValue)

/-- `MemWrite(a, 1, v)`: one write transaction; `Wr(a, v)` appended (R15). -/
def State.memWrite (s : State) (a : BusAddr) (v : Byte) : State := s.appendLog (.wr a v)

/-- `Wait(d)`: appends `Dly(d)` and "changes nothing else" (R15); there is no time (log entry 8). -/
def State.wait (s : State) (microseconds : Nat) : State := s.appendLog (.dly microseconds)

/-- `Respond(st, v)`: the host gets its response (R15, R95). -/
def State.respond (s : State) (st : Status) (v : TickWord) : State :=
  { s with responses := s.responses ++ [⟨st, v⟩] }

/-- `Respond(OK, v)`. -/
def State.respondOk (s : State) (v : TickWord) : State := s.respond .ok v

/-- `Respond(OK, 0)`. -/
def State.respondZero (s : State) : State := s.respondOk (s.word 0)

/-- `raise Illegal(op)`, the block's only exception: "defined as Respond(ILLEGAL, 0) with no other
state change" (R15, R212). Nothing is saved and nothing is entered, so there is no return (R220, R222). -/
def State.raiseIllegal (s : State) : State := s.respond .illegal (s.word 0)

/-- "A host operation is in flight" is the predicate DSEQ != IDLE (R32). -/
def State.inFlight (s : State) : Bool := s.dseq != .idle

/-- The issue of WRCMD and WRDATA: `DARG <- v; DADDR <- a; DSEQ <- POLL` (R121). -/
def State.issueWrite (s : State) (a : BusAddr) (v : Byte) : State :=
  ((s.setDarg v).setDaddr a).setDseq .poll

end Sys2Proof.Machine
end

