-- ==== Sys2Proof/Machine/Flags.lean ====
section
/-! DEFINITION. The status bits of R34: the busy flag in the status byte, and the agreement count that
decides when STABLE is written. -/

namespace Sys2Proof.Machine

/-- BF, bit BF_BIT of the status byte: 1 = the device "cannot accept a new bus transaction yet" (R63).
The block looks at no other bit (R124). -/
def busyFlag (status : Byte) : Bool := status.getLsbD Config.bfBit

/-- AC, bits 6:0 of the status byte, the cursor address (R63). The block never reads it. PRESUMED by
the spec (D22); only the reference device of R70 uses it (log entry 17). -/
def cursorAddress (status : Byte) : BitVec 7 := status.extractLsb' 0 7

/-- cnt' of R161 step 2: one more agreement, or 0 on a disagreement. -/
def Channel.agreements (ch : Channel) (current : Bool) : Nat :=
  if current = ch.prev then ch.cnt.toNat + 1 else 0

/-- The test of R161 step 4, on the count after step 2: STABLE is written exactly then. -/
def Channel.commits (ch : Channel) (current : Bool) : Bool :=
  ch.agreements current == Config.dbThresh

/-- R25 (a): the count between steps is below the threshold. A count outside this range "is outside
the spec" (R171). -/
def Channel.inRange (ch : Channel) : Bool := decide (ch.cnt.toNat < Config.dbThresh)

end Sys2Proof.Machine
end

