-- ==== Sys2Proof/Machine/Operands.lean ====
section
/-! DEFINITION. The operand and response forms: the channel number, and what is zero-extended to
TICK_W bits in a response (R92, R95). -/

namespace Sys2Proof.Machine

/-- The channel that the number c names: 1 or 2, and no other (R92, R96). -/
def State.channelAt (s : State) (c : Nibble) : Option Channel :=
  if c = 1 then some s.ch1 else if c = 2 then some s.ch2 else none

/-- `zext_TICK_W(v)`, for the byte of a bus read, the pack of RDCH, or one level with 1 = Pressed and
0 = Released (R13, R95). -/
def State.zext {n : Nat} (s : State) (v : BitVec n) : TickWord := ⟨s.tickW, v.setWidth s.tickW⟩

/-- The 8-bit pack of RDCH, `{CNT[c], 0b0, RAW[c], PREV[c], STABLE[c]}`: bits 7:4, 3, 2, 1, 0 (R163). -/
def Channel.pack (ch : Channel) : Byte :=
  ch.cnt ++ (0 : BitVec 1) ++ BitVec.ofBool ch.raw ++ BitVec.ofBool ch.prev ++ BitVec.ofBool ch.stable

end Sys2Proof.Machine
end

