-- ==== Sys2Proof/Machine/Debounce.lean ====
section
/-! DEFINITION. The debounce filter DBF: DBSTEP and the SAMPLE event, and RDBTN, RDCH, SMPDIS, SMPEN
(R160 to R166). -/

namespace Sys2Proof.Machine

/-- DBSTEP (R161): the registers of one channel after an unmasked sample of level `current`. -/
def Channel.dbStep (ch : Channel) (current : Bool) : Channel :=
  if ch.commits current then
    { raw := current, prev := current, cnt := 0, stable := current }
  else
    { raw := current, prev := current, cnt := BitVec.ofNat 4 (ch.agreements current),
      stable := ch.stable }

/-- The SAMPLE event (R160): both channels in one atomic step when SMPEN = 1, nothing when SMPEN = 0;
a masked event leaves no trace. A count of DB_THRESH or more is outside the spec and is refused
(R171, U17; log entry 10). -/
def sampleEvent (btn1 btn2 : Bool) (s : State) : Host.Outcome State Fault Refusal :=
  if s.smpen then
    if s.ch1.inRange && s.ch2.inRange then
      .next (s.setChannels (s.ch1.dbStep btn1) (s.ch2.dbStep btn2))
    else .refused .counterOutOfRange
  else .next s

/-- RDBTN c: `Respond(OK, zext_TICK_W(STABLE[c]))` (R162); c outside {1, 2} is illegal (R96, log entry
12). -/
def execRdbtn (c : Nibble) (s : State) : Host.Outcome State Fault Refusal :=
  match s.channelAt c with
  | some ch => .next (s.respondOk (s.zext (BitVec.ofBool ch.stable)))
  | none => .next s.raiseIllegal

/-- RDCH c: all four fields of channel c in one response (R163); c outside {1, 2} is illegal (R96, log
entry 12). -/
def execRdch (c : Nibble) (s : State) : Host.Outcome State Fault Refusal :=
  match s.channelAt c with
  | some ch => .next (s.respondOk (s.zext ch.pack))
  | none => .next s.raiseIllegal

/-- SMPDIS: `SMPEN <- 0; Respond(OK, 0)` (R164). -/
def execSmpdis (s : State) : Host.Outcome State Fault Refusal :=
  .next ((s.setSmpen false).respondZero)

/-- SMPEN: `SMPEN <- 1; Respond(OK, 0)` (R165). -/
def execSmpen (s : State) : Host.Outcome State Fault Refusal :=
  .next ((s.setSmpen true).respondZero)

end Sys2Proof.Machine
end

