-- ==== Sys2Proof/Machine/Display.lean ====
section
/-! DEFINITION. The display protocol engine DPE: the issue of WRCMD, WRDATA, RDSTAT and INIT (R121) and
the ENGINE micro-steps POLL, WRITE, READ and INIT(k) (R124, R125, R127, R130). -/

namespace Sys2Proof.Machine

/-! ### Issue (R121): no bus transaction, and no response until the last micro-step -/

/-- WRCMD imm8, its issue step (R122 line 1). -/
def execWrcmd (imm8 : Byte) (s : State) : Host.Outcome State Fault Refusal :=
  .next (s.issueWrite Config.addrCmd imm8)

/-- WRDATA imm8, its issue step (R123 line 1). -/
def execWrdata (imm8 : Byte) (s : State) : Host.Outcome State Fault Refusal :=
  .next (s.issueWrite Config.addrData imm8)

/-- RDSTAT a, its issue step (R126 line 1): DARG is unchanged. -/
def execRdstat (a : BusAddr) (s : State) : Host.Outcome State Fault Refusal :=
  .next ((s.setDaddr a).setDseq .read)

/-- INIT, its issue step (R128 line 1): DARG and DADDR are unchanged. -/
def execInit (s : State) : Host.Outcome State Fault Refusal :=
  .next (s.setDseq (.init 0))

/-! ### Micro-steps -/

/-- The POLL micro-step (R124): a read at address 0; only bit 7 of the answer is looked at. -/
def pollStep (s : State) : State :=
  (s.memRead Config.addrCmd).setDseq (if busyFlag s.readValue then .poll else .write)

/-- The WRITE micro-step (R125): the one write transaction of WRCMD and WRDATA, then the response. -/
def writeStep (s : State) : State :=
  ((s.memWrite s.daddr s.darg).setDseq .idle).respondZero

/-- The READ micro-step (R127): the one read transaction of RDSTAT; its byte is the response. -/
def readStep (s : State) : State :=
  ((s.memRead s.daddr).setDseq .idle).respondOk (s.zext s.readValue)

/-- An entry of INITSEQ: `Wait(d)`, or `MemWrite(0, 1, v)` (R129). -/
inductive InitAction where
  | wait (microseconds : Nat)
  | write (v : Byte)
  deriving DecidableEq, Repr

/-- INITSEQ, the hardwired table of nine entries, over the command bytes by name (R129, R101). -/
def initSeq (c : CommandBytes) (k : Fin 9) : InitAction :=
  match k with
  | 0 => .wait Config.tPowerOn
  | 1 => .write c.functionSet
  | 2 => .wait Config.tSettleFast
  | 3 => .write c.displayCtrl
  | 4 => .wait Config.tSettleFast
  | 5 => .write c.clear
  | 6 => .wait Config.tSettleSlow
  | 7 => .write c.entryMode
  | 8 => .wait Config.tSettleSlow

/-- What one entry of INITSEQ does on the bus (R130): no status read comes before a write. -/
def State.perform (s : State) (action : InitAction) : State :=
  match action with
  | .wait d => s.wait d
  | .write v => s.memWrite Config.addrCmd v

/-- The INIT(k) micro-step (R130): INIT(k) goes to INIT(k+1), and INIT(8) to IDLE with the response. -/
def initStep (k : Fin 9) (s : State) : State :=
  if h : k.val < 8 then (s.perform (initSeq s.commands k)).setDseq (.init ⟨k.val + 1, by omega⟩)
  else ((s.perform (initSeq s.commands k)).setDseq .idle).respondZero

/-- One ENGINE micro-step, chosen by DSEQ. "When DSEQ = IDLE the engine makes no bus transaction and
appends nothing to BUSLOG" (R120): its slot passes (log entry 2). -/
def engineStep (s : State) : State :=
  match s.dseq with
  | .idle => s
  | .poll => pollStep s
  | .write => writeStep s
  | .read => readStep s
  | .init k => initStep k s

end Sys2Proof.Machine
end

