-- ==== Sys2Proof/Machine/TickCounter.lean ====
section
/-! DEFINITION. The tick counter TCK: the TICK event, and RDTICK and CLRTICK (R190 to R192). -/

namespace Sys2Proof.Machine

/-- `(t + 1) mod 2^w`, at any width: it wraps silently (R190, R193). -/
def tickIncrement {width : Nat} (t : BitVec width) : BitVec width := t + 1

/-- TICK after one increment: its width is as before (R190, R193). -/
def TickWord.increment (t : TickWord) : TickWord := ⟨t.width, tickIncrement t.bits⟩

/-- The TICK event (R190): taken in every state, never masked (R217). -/
def tickEvent (s : State) : State := s.setTick s.tick.increment

/-- RDTICK: `Respond(OK, TICK)` (R191). -/
def execRdtick (s : State) : Host.Outcome State Fault Refusal := .next (s.respondOk s.tick)

/-- CLRTICK: `TICK <- 0; Respond(OK, 0)` (R192). -/
def execClrtick (s : State) : Host.Outcome State Fault Refusal :=
  .next ((s.setTick (s.word 0)).respondZero)

end Sys2Proof.Machine
end

