-- ==== Sys2Proof/Machine/Dispatch.lean ====
section
/-! DEFINITION. The effect of each host operation that the port has accepted: one arm per constructor. -/

namespace Sys2Proof.Machine

/-- The atomic step in which the host's operation is issued (R10): the whole of a debounce or tick
operation, the issue step of a display operation. -/
def exec (i : Instr) (s : State) : Host.Outcome State Fault Refusal :=
  match i with
  | .wrcmd imm8 => Sys2Proof.Machine.execWrcmd imm8 s
  | .wrdata imm8 => Sys2Proof.Machine.execWrdata imm8 s
  | .rdstat a => Sys2Proof.Machine.execRdstat a s
  | .init => Sys2Proof.Machine.execInit s
  | .rdbtn c => Sys2Proof.Machine.execRdbtn c s
  | .rdch c => Sys2Proof.Machine.execRdch c s
  | .smpdis => Sys2Proof.Machine.execSmpdis s
  | .smpen => Sys2Proof.Machine.execSmpen s
  | .rdtick => Sys2Proof.Machine.execRdtick s
  | .clrtick => Sys2Proof.Machine.execClrtick s

end Sys2Proof.Machine
end

