-- ==== Sys2Proof/Machine/Reset.lean ====
section
/-! DEFINITION. The RESET event (R250 to R252). -/

namespace Sys2Proof.Machine

/-- The RESET event, enabled in every state (R250): the registers take their reset values, the display
operation in flight is abandoned without a response, BUSLOG is kept and the bus is not driven.
The parameters of the machine, TICK_W and the command bytes, are as before. DARG
and DADDR become unspecified: free values (R251, U6; log entry 5). -/
def resetEvent (s : State) : State :=
  { s with
    ch1 := Channel.reset
    ch2 := Channel.reset
    smpen := true
    tick := s.word 0
    dseq := .idle
    darg := Config.freeDarg s.env.fresh
    daddr := Config.freeDaddr s.env.fresh
    env := s.env.draw }

end Sys2Proof.Machine
end

