-- ==== Sys2Proof/Machine/Step.lean ====
section
/-! DEFINITION. One step of the block: one slot of the schedule, given to one agent (R9, R11). -/

namespace Sys2Proof.Machine

/-- The host issues the word it holds: decode precedes everything (R212); a legal word runs, an illegal
one is answered `Respond(ILLEGAL, 0)` and changes nothing else (R96; log entry 3). -/
def issueWord (w : OpWord) (s : State) : Host.Outcome State Fault Refusal :=
  match decode w with
  | .ok i => exec i s
  | .error _ => .next s.raiseIllegal

/-- The HOST's slot. While an operation is in flight the port accepts no word (R32, R81) and the host
is blocked (R10): its slot passes and its word stays the next one (U15; log entry 2). -/
def hostStep (s : State) : Host.Outcome State Fault Refusal :=
  if s.inFlight then .next s
  else issueWord s.env.nextWord (s.setEnv s.env.dropWord)

/-- The step of the agent whose slot it is (R9). -/
def agentStep (slot : Slot) (s : State) : Host.Outcome State Fault Refusal :=
  match slot with
  | .host => hostStep s
  | .engine => .next (engineStep s)
  | .sample btn1 btn2 => sampleEvent btn1 btn2 s
  | .tick => .next (tickEvent s)
  | .reset => .next (resetEvent s)

/-- One step: the schedule names the agent, and the agent takes its step. -/
def step (s : State) : Host.Outcome State Fault Refusal :=
  agentStep s.env.nextSlot (s.setEnv s.env.dropSlot)

/-- The state in which the host, at its turn, presents the word that a row of the opcode table gives:
the next slot is HOST's, the next word is that word, and no operation is in flight, so that the port
accepts it (R32, R81; log entry 11). -/
def State.withFetchWord (s : State) (nbits w : Nat) : State :=
  { s with
    dseq := .idle
    env := { s.env with slots := .host :: s.env.slots, words := tableWord nbits w :: s.env.words } }

end Sys2Proof.Machine
end

