-- ==== Sys2Proof/Machine/Cycle.lean ====
section
/-! DEFINITION. What a clocked implementation does with steps that fall in one clock cycle, as slots in
order (R11, R219, D10). The machine itself has no cycles: "There is no simultaneity in the model". -/

namespace Sys2Proof.Machine

/-- What is presented in one clock cycle: RESET, a turn of the main flow (HOST or ENGINE, whichever is
enabled), a SAMPLE strobe with the pins, a TICK strobe. -/
structure Cycle where
  reset : Bool
  main : Bool
  sample : Option (Bool × Bool)
  tick : Bool
  deriving DecidableEq, Repr

/-- The slots that a cycle amounts to: RESET wins over everything else in its cycle (R219, R250); the
host step comes before the events (R11); SAMPLE and TICK commute (R219). HOST is enabled when no
operation is in flight and ENGINE when one is (R9), so at most one of them has the turn. -/
def Cycle.slots (c : Cycle) (inFlight : Bool) : List Slot :=
  if c.reset then [.reset]
  else
    (if c.main then [if inFlight then .engine else .host] else [])
      ++ (match c.sample with
          | some (btn1, btn2) => [.sample btn1 btn2]
          | none => [])
      ++ (if c.tick then [.tick] else [])

end Sys2Proof.Machine
end

