-- ==== Sys2Proof/Machine/Device.lean ====
section
/-! DEFINITION. The reference device of R70: "an optional environment for tests and for the round-trip
property", not part of the block. It is a replay over BUSLOG: it follows the block's transactions and
accepts those answers that it would have given itself. -/

namespace Sys2Proof.Machine

/-- The reference device: its cursor address AC, and DISP_SPAN, "a named open parameter" without a
default (R70; log entry 17). -/
structure RefDevice where
  span : Nat
  ac : Nat
  deriving DecidableEq, Repr

/-- A command byte of INIT that leaves AC unchanged (R70). -/
def keepsCursor (c : CommandBytes) (v : Byte) : Bool :=
  v == c.functionSet || v == c.displayCtrl || v == c.entryMode

/-- One BUSLOG entry at the reference device, whose commands are the bytes c (R70, R101): `none` where the entry is an answer that the device
would not give, or a transaction for which its behaviour is unspecified. -/
def RefDevice.onEvent (d : RefDevice) (c : CommandBytes) (e : BusEvent) : Option RefDevice :=
  match e with
  | .wr a v =>
    if a = Config.addrData then some { d with ac := (d.ac + 1) % d.span }
    else if v = c.clear then some { d with ac := 0 }
    else if keepsCursor c v then some d
    else none
  | .rd a v =>
    if a = Config.addrCmd ∧ cursorAddress v = BitVec.ofNat 7 d.ac then some d else none
  | .dly _ => some d

/-- The reference device after a stretch of BUSLOG, if every answer in it is one that it gives (R70). -/
def RefDevice.replay (d : RefDevice) (c : CommandBytes) (log : List BusEvent) :
    Option RefDevice :=
  match log with
  | [] => some d
  | e :: rest =>
    match d.onEvent c e with
    | some d' => d'.replay c rest
    | none => none

end Sys2Proof.Machine
end

