-- ==== Sys2Proof/Safety.lean ====
section
/-! DEFINITION. The terms that claims are stated in: the invariant of R25, runs over a list of slots,
runs of samples, what counts as a safe run, the stall, and the parts of the state that the units own. -/

namespace Sys2Proof.Machine

/-- R25 (a) and (b) of one channel: 0 <= CNT[c] <= DB_THRESH - 1, and RAW[c] = PREV[c]. -/
def Channel.Inv (ch : Channel) : Prop := ch.cnt.toNat ≤ Config.dbThresh - 1 ∧ ch.raw = ch.prev

/-- R25: the invariant of the debounce registers, of both channels. -/
def State.Inv (s : State) : Prop := s.ch1.Inv ∧ s.ch2.Inv

/-- "constraint TICK_W >= 13" on the machine's width (R7, R193): the widths that the spec admits. -/
def State.legalTickW (s : State) : Prop := Config.tickWMin ≤ s.tickW

/-- The run over a list of slots: each slot is one agent's step, in order (R11). -/
def runSlots : List Slot → State → Host.Outcome State Fault Refusal
  | [], s => .next s
  | a :: rest, s =>
    match agentStep a s with
    | .next t => runSlots rest t
    | .fault r => .fault r
    | .refused r => .refused r

/-- One channel after a run of unmasked samples, oldest first: DBSTEP once for each (R161). -/
def Channel.samples (ch : Channel) (levels : List Bool) : Channel := levels.foldl Channel.dbStep ch

/-- n alternating samples, the first of level `first` (R169). -/
def alternating (first : Bool) : Nat → List Bool
  | 0 => []
  | n + 1 => first :: alternating (!first) n

/-- The levels that the SAMPLE slots of a schedule carry for channel 1, in order. -/
def levels1 (slots : List Slot) : List Bool :=
  slots.filterMap fun
    | .sample btn1 _ => some btn1
    | _ => none

/-- The levels that the SAMPLE slots of a schedule carry for channel 2, in order. -/
def levels2 (slots : List Slot) : List Bool :=
  slots.filterMap fun
    | .sample _ btn2 => some btn2
    | _ => none

/-- n steps of the machine, by the host's own runner. -/
def runSteps (n : Nat) (s : State) : Host.Outcome State Fault Refusal :=
  Host.Core.run Sys2Proof.core n s

/-- A host program is safe when no word of it is answered ILLEGAL: the distinguished error outcome of
R212, on which "a proof about a host program normally carries the hypothesis that every word it issues
is legal". -/
def State.noIllegalResponse (s : State) : Bool := s.responses.all fun r => r.status == .ok

/-- The responses given and the one still owed for the operation in flight: the count of operations
issued and not abandoned (R95). -/
def State.issuedCount (s : State) : Nat := s.responses.length + if s.inFlight then 1 else 0

/-- An infinite execution: the slots of a schedule, each taken by its agent from the state before (R11). -/
def isExecution (schedule : Nat → Slot) (run : Nat → State) : Prop :=
  ∀ n, agentStep (schedule n) (run n) = .next (run (n + 1))

/-- No RESET comes in the execution. -/
def withoutReset (schedule : Nat → Slot) : Prop := ∀ n, schedule n ≠ .reset

/-- R12's first progress assumption: SAMPLE and TICK come infinitely often, and this is assumed only "in
every infinite execution without RESET". -/
def periodicEventsRecur (schedule : Nat → Slot) : Prop :=
  withoutReset schedule →
    (∀ n, ∃ m, n ≤ m ∧ ∃ btn1 btn2, schedule m = .sample btn1 btn2) ∧
    (∀ n, ∃ m, n ≤ m ∧ schedule m = .tick)

/-- R12's second: an ENGINE micro-step that is enabled (R9: DSEQ is not IDLE) is eventually taken, unless
it stops being enabled, as at a RESET. -/
def engineProgresses (schedule : Nat → Slot) (run : Nat → State) : Prop :=
  ∀ n, (run n).dseq ≠ .idle → ∃ m, n ≤ m ∧ (schedule m = .engine ∨ (run m).dseq = .idle)

/-- The progress assumptions of R12 on an infinite execution, and no more than these: "Nothing is assumed
about the ratio of event rates to host or engine steps". Assumptions about the environment, which no
step needs (log entry 19). -/
def fairExecution (schedule : Nat → Slot) (run : Nat → State) : Prop :=
  isExecution schedule run ∧ periodicEventsRecur schedule ∧ engineProgresses schedule run

/-- What the debounce filter and the tick counter own: RAW, PREV, CNT, STABLE, SMPEN and TICK (R134). -/
def State.debounceAndTick (s : State) : Channel × Channel × Bool × TickWord :=
  (s.ch1, s.ch2, s.smpen, s.tick)

/-- What the display engine owns or writes: DSEQ, DARG, DADDR, BUSLOG and the responses, with the
environment that answers it (R120, R134). -/
def State.displayPart (s : State) : Dseq × Byte × BusAddr × List BusEvent × List Response × Env :=
  (s.dseq, s.darg, s.daddr, s.busLog, s.responses, s.env)

/-- The slot is SAMPLE or TICK: a periodic event (R215). -/
def Slot.isPeriodic : Slot → Bool
  | .sample _ _ => true
  | .tick => true
  | .host => false
  | .engine => false
  | .reset => false

/-- The nine entries that INIT appends to BUSLOG, in order, with the command bytes c (R128, R136). -/
def initTrace (c : CommandBytes) : List BusEvent :=
  [.dly Config.tPowerOn, .wr Config.addrCmd c.functionSet, .dly Config.tSettleFast,
   .wr Config.addrCmd c.displayCtrl, .dly Config.tSettleFast,
   .wr Config.addrCmd c.clear, .dly Config.tSettleSlow,
   .wr Config.addrCmd c.entryMode, .dly Config.tSettleSlow]

/-- The schedule of one operation that its ENGINE micro-steps follow at once: the HOST's slot and then
n ENGINE slots. -/
def operationSlots (n : Nat) : List Slot := .host :: List.replicate n .engine

end Sys2Proof.Machine
end

