-- ==== Sys2Proof/Certificates/Slice0/Obligations.lean ====
section
/-! DEFINITION. The statements about the block, for the provers. Unless a statement says otherwise its
result is an equation between whole states, so that everything it does not name is unchanged: that is
its frame. `s.word n` is n mod 2^TICK_W in the TICK_W bits of the machine s, any width (R193). The block has no memory (R60); BUSLOG records its bus accesses. Where such an equation keeps
DARG and DADDR while DSEQ = IDLE, that is the model's reading, log entry 18. -/

open Sys2Proof Sys2Proof.Machine

/-! ### Encoding -/

/-- "The exact words" of R94, with a byte for NN, and four illegal words (R96). A sanity statement. -/
def Obligations.DecodesTheExactWords : Prop :=
  decode 0x1001 = .ok (.wrcmd 0x01) ∧ decode 0x2041 = .ok (.wrdata 0x41) ∧
  decode 0x3000 = .ok (.rdstat 0) ∧ decode 0x3100 = .ok (.rdstat 1) ∧
  decode 0x4000 = .ok .init ∧ decode 0x5100 = .ok (.rdbtn 1) ∧ decode 0x5200 = .ok (.rdbtn 2) ∧
  decode 0x6100 = .ok (.rdch 1) ∧ decode 0x6200 = .ok (.rdch 2) ∧ decode 0x7000 = .ok .smpdis ∧
  decode 0x8000 = .ok .smpen ∧ decode 0x9000 = .ok .rdtick ∧ decode 0xA000 = .ok .clrtick ∧
  decode 0x3200 = .error (.noSuchAddress 2) ∧ decode 0x5300 = .error (.noSuchChannel 3) ∧
  decode 0x1101 = .error (.subNotZero 1 1) ∧ decode 0xB000 = .error (.reservedOpcode 0xB)

/-- R94, R105: decoding the word of any well-formed operation gives it back, with every operand at every
value that the encoding admits. -/
def Obligations.DecodeOfEncodeIsTheOperation : Prop :=
  ∀ i : Instr, i.wellFormed = true → decode (encode i) = .ok i

/-- R94, R105: each legal word has one meaning: the word that decodes to an operation is the word of
that operation, and the operation is well formed. -/
def Obligations.EncodeOfDecodeIsTheWord : Prop :=
  ∀ (w : OpWord) (i : Instr), decode w = .ok i → encode i = w ∧ i.wellFormed = true

/-- R94: a word selects an operation exactly when its row's match and mask and its operand constraint
say so. -/
def Obligations.WordSelectsTheOperationOfItsRow : Prop :=
  ∀ w : OpWord,
    (∀ i, decode w = .ok i → w &&& i.maskBits = i.matchBits) ∧
    (∀ i : Instr, w &&& i.maskBits = i.matchBits →
      (i.mnemonic = "RDBTN" ∨ i.mnemonic = "RDCH" → legalChannel (OpWord.sub w) = true) →
      ∃ j, decode w = .ok j ∧ j.mnemonic = i.mnemonic)

/-- R96, R212: the illegal words are those of R96's list, the all-zero and the all-ones word among them;
issuing one changes no state of the block, makes no bus transaction, and is answered (ILLEGAL, 0) in
that step. That the answer is a next state and not a fault of the model is the model's choice (log
entry 3). -/
def Obligations.IllegalWordIsAnsweredAndChangesNothing : Prop :=
  (∀ w : OpWord, (∃ r, decode w = .error r) ↔ illegalNumber w.toNat = true) ∧
  illegalNumber 0x0000 = true ∧ illegalNumber 0xFFFF = true ∧
  (∀ s : State, s.env.nextSlot = .host → s.dseq = .idle →
    illegalNumber s.env.dropSlot.nextWord.toNat = true →
    step s = .next { s with
      responses := s.responses ++ [⟨.illegal, s.word 0⟩]
      env := s.env.dropSlot.dropWord })

/-! ### Steps and runs -/

/-- R9, R10: at the HOST's turn with no operation in flight, when the word it issues decodes to i, the
step is exec of i, at the state in which the environment has moved past that turn and that word. -/
def Obligations.StepRunsTheDecodedOperation : Prop :=
  ∀ (s : State) (i : Instr), s.env.nextSlot = .host → s.dseq = .idle →
    decode s.env.dropSlot.nextWord = .ok i →
    step s = exec i { s with env := s.env.dropSlot.dropWord }

/-- R11: n steps from a state whose schedule begins with n chosen slots are the steps of those agents,
in that order. -/
def Obligations.RunFollowsTheChosenSchedule : Prop :=
  ∀ (slots rest : List Slot) (s : State), s.env.slots = slots ++ rest →
    runSteps slots.length s = runSlots slots { s with env := { s.env with slots := rest } }

/-- R210, R214: from every state that meets the invariant of R25, every run goes on for ever, and the
invariant holds all along it. -/
def Obligations.RunsNeverStop : Prop :=
  ∀ (n : Nat) (s : State), s.Inv → ∃ t, runSteps n s = .next t ∧ t.Inv

/-- R25 (a), (b): every step keeps the invariant of the debounce registers. -/
def Obligations.EveryStepKeepsTheChannelInvariant : Prop :=
  ∀ s t : State, s.Inv → step s = .next t → t.Inv

/-- R25: the invariant holds after reset. -/
def Obligations.ChannelInvariantAtReset : Prop := State.reset.Inv

/-- R40: the values after reset that the spec gives. DARG, DADDR (log entry 4) and the model's own
fields (log entries 1 and 9) are left out. -/
def Obligations.ResetStateHoldsTheSpecValues : Prop :=
  State.reset.ch1 = ⟨false, false, 0, false⟩ ∧ State.reset.ch2 = ⟨false, false, 0, false⟩ ∧
  State.reset.smpen = true ∧ State.reset.tick.bits = 0 ∧ State.reset.dseq = .idle ∧
  State.reset.busLog = []

/-- R7, R101: the command bytes are parameters, given the spec's defaults at reset (PRESUMED, log entry
7), which no step writes, RESET among them. -/
def Obligations.CommandBytesAreParameters : Prop :=
  State.reset.commands = ⟨0x38, 0x0C, 0x01, 0x06⟩ ∧
  ∀ s t : State, step s = .next t → t.commands = s.commands

/-! ### The display engine -/

/-- R121, R32: the issue of each display operation, with no bus transaction and no response; and while an
operation is in flight the host issues nothing: its turn passes and its word stays the next one (log
entry 2 says that the passing of the turn is the model's choice). -/
def Obligations.DisplayOperationIsIssued : Prop :=
  (∀ s : State, s.dseq = .idle →
    (∀ v, exec (.wrcmd v) s = .next { s with darg := v, daddr := 0, dseq := .poll }) ∧
    (∀ v, exec (.wrdata v) s = .next { s with darg := v, daddr := 1, dseq := .poll }) ∧
    (∀ a, exec (.rdstat a) s = .next { s with daddr := a, dseq := .read }) ∧
    exec .init s = .next { s with dseq := .init 0 }) ∧
  (∀ s : State, s.env.nextSlot = .host → s.dseq ≠ .idle →
    step s = .next { s with env := s.env.dropSlot })

/-- R124: the POLL micro-step reads at address 0 and looks at bit 7 of the answer only. -/
def Obligations.PollMicroStep : Prop :=
  ∀ s : State, s.env.nextSlot = .engine → s.dseq = .poll →
    step s = .next { s with
      busLog := s.busLog ++ [.rd 0 s.env.dropSlot.nextAnswer]
      dseq := if s.env.dropSlot.nextAnswer.getLsbD 7 then .poll else .write
      env := s.env.dropSlot.dropAnswer }

/-- R125: the WRITE micro-step writes DARG at DADDR once, goes to IDLE and responds (OK, 0). -/
def Obligations.WriteMicroStep : Prop :=
  ∀ s : State, s.env.nextSlot = .engine → s.dseq = .write →
    step s = .next { s with
      busLog := s.busLog ++ [.wr s.daddr s.darg]
      dseq := .idle
      responses := s.responses ++ [⟨.ok, s.word 0⟩]
      env := s.env.dropSlot }

/-- R127: the READ micro-step reads at DADDR once, goes to IDLE and responds the byte, zero-extended. -/
def Obligations.ReadMicroStep : Prop :=
  ∀ s : State, s.env.nextSlot = .engine → s.dseq = .read →
    step s = .next { s with
      busLog := s.busLog ++ [.rd s.daddr s.env.dropSlot.nextAnswer]
      dseq := .idle
      responses := s.responses ++ [⟨.ok, s.word s.env.dropSlot.nextAnswer.toNat⟩]
      env := s.env.dropSlot.dropAnswer }

/-- R129, R130: the INIT(k) micro-step appends entry k of INITSEQ, reads nothing, and goes to INIT(k+1);
after entry 8 it goes to IDLE and responds (OK, 0). The command bytes are the machine's, any four (R101). -/
def Obligations.InitMicroStep : Prop :=
  ∀ (s : State) (k : Fin 9), s.env.nextSlot = .engine → s.dseq = .init k →
    ∃ e, [BusEvent.dly Config.tPowerOn, .wr 0 s.commands.functionSet, .dly Config.tSettleFast,
        .wr 0 s.commands.displayCtrl, .dly Config.tSettleFast, .wr 0 s.commands.clear,
        .dly Config.tSettleSlow, .wr 0 s.commands.entryMode, .dly Config.tSettleSlow][k.val]? = some e ∧
      (k.val < 8 → ∃ k' : Fin 9, k'.val = k.val + 1 ∧
        step s = .next { s with
          busLog := s.busLog ++ [e], dseq := .init k', env := s.env.dropSlot }) ∧
      (k.val = 8 →
        step s = .next { s with
          busLog := s.busLog ++ [e], dseq := .idle, responses := s.responses ++ [⟨.ok, s.word 0⟩]
          env := s.env.dropSlot })

/-- R122, R123, R132: WRCMD and WRDATA, whole: any number of polls answered busy, one answered not busy,
one write of the operand at the operation's address, the response (OK, 0); DARG and DADDR hold the
operand and the address (that they still do in IDLE is log entry 18), all else is unchanged. -/
def Obligations.WriteOperationPollsThenWritesOnce : Prop :=
  ∀ (s : State) (v clear : Byte) (busy answers : List Byte) (slots : List Slot) (words : List OpWord),
    s.dseq = .idle → (∀ b ∈ busy, b.getLsbD 7 = true) → clear.getLsbD 7 = false →
    s.env.slots = operationSlots (busy.length + 2) ++ slots →
    s.env.answers = busy ++ clear :: answers →
    (s.env.words = encode (.wrcmd v) :: words →
      runSteps (busy.length + 3) s = .next { s with
        darg := v, daddr := 0
        busLog := s.busLog ++ busy.map (.rd 0) ++ [.rd 0 clear, .wr 0 v]
        responses := s.responses ++ [⟨.ok, s.word 0⟩]
        env := { s.env with slots := slots, words := words, answers := answers } }) ∧
    (s.env.words = encode (.wrdata v) :: words →
      runSteps (busy.length + 3) s = .next { s with
        darg := v, daddr := 1
        busLog := s.busLog ++ busy.map (.rd 0) ++ [.rd 0 clear, .wr 1 v]
        responses := s.responses ++ [⟨.ok, s.word 0⟩]
        env := { s.env with slots := slots, words := words, answers := answers } })

/-- R126: RDSTAT a, whole: one read cycle at a, no poll before it, and the byte of that cycle as the
response, unchanged and zero-extended; DADDR holds a (that it still does in IDLE is log entry 18). -/
def Obligations.StatusReadIsOneBusRead : Prop :=
  ∀ (s : State) (a : BusAddr) (b : Byte) (answers : List Byte) (slots : List Slot)
    (words : List OpWord),
    s.dseq = .idle → s.env.slots = operationSlots 1 ++ slots →
    s.env.words = encode (.rdstat a) :: words → s.env.answers = b :: answers →
    runSteps 2 s = .next { s with
      daddr := a
      busLog := s.busLog ++ [.rd a b]
      responses := s.responses ++ [⟨.ok, s.word b.toNat⟩]
      env := { s.env with slots := slots, words := words, answers := answers } } ∧
    (s.legalTickW → (s.word b.toNat).bits.toNat = b.toNat)

/-- R128, R136: INIT, whole, with SAMPLE and TICK events and turns of the blocked host anywhere between
its nine micro-steps: it appends exactly the nine entries, in order and without a read, and responds
(OK, 0); it takes no answer of the device and does not touch TICK, which counts the TICK events. That
a turn of the blocked host passes is the model's choice, log entry 2. -/
def Obligations.InitEmitsItsNineEntries : Prop :=
  ∀ (s : State) (slots rest : List Slot) (words : List OpWord),
    s.Inv → s.dseq = .idle → s.env.words = encode .init :: words →
    s.env.slots = .host :: (slots ++ .engine :: rest) →
    slots.count .engine = 8 → .reset ∉ slots →
    ∃ t, runSteps (slots.length + 2) s = .next t ∧
      t.busLog = s.busLog ++
        [.dly Config.tPowerOn, .wr 0 s.commands.functionSet, .dly Config.tSettleFast,
         .wr 0 s.commands.displayCtrl, .dly Config.tSettleFast, .wr 0 s.commands.clear,
         .dly Config.tSettleSlow, .wr 0 s.commands.entryMode, .dly Config.tSettleSlow] ∧
      t.responses = s.responses ++ [⟨.ok, s.word 0⟩] ∧ t.dseq = .idle ∧
      t.darg = s.darg ∧ t.daddr = s.daddr ∧
      t.tick = s.word (s.tick.bits.toNat + slots.count .tick) ∧
      t.env = { s.env with slots := rest, words := words }

/-- R133, R213: while every status byte is answered with bit 7 = 1, a WRCMD or WRDATA stays in POLL:
the host stays blocked and gets no response, the engine makes status reads and nothing else, and SAMPLE
and TICK events go on being taken. It holds for schedules of every length without RESET. That a turn
of the blocked host passes is the model's choice, log entry 2. -/
def Obligations.BusyDeviceStallsTheHost : Prop :=
  ∀ (s : State) (slots rest : List Slot),
    s.Inv → s.dseq = .poll → s.env.slots = slots ++ rest → .reset ∉ slots →
    slots.count .engine ≤ s.env.answers.length →
    (∀ b ∈ s.env.answers.take (slots.count .engine), b.getLsbD 7 = true) →
    ∃ t, runSteps slots.length s = .next t ∧ t.dseq = .poll ∧
      t.responses = s.responses ∧ t.env.words = s.env.words ∧ t.darg = s.darg ∧ t.daddr = s.daddr ∧
      t.busLog = s.busLog ++ (s.env.answers.take (slots.count .engine)).map (.rd 0) ∧
      t.smpen = s.smpen ∧
      t.tick = s.word (s.tick.bits.toNat + slots.count .tick) ∧
      (s.smpen = true →
        t.ch1 = s.ch1.samples (levels1 slots) ∧ t.ch2 = s.ch2.samples (levels2 slots)) ∧
      (s.smpen = false → t.ch1 = s.ch1 ∧ t.ch2 = s.ch2)

/-- R131, R137: WRSTR of a string followed by RDSTAT 0 on a device that is never busy: two BUSLOG entries
a character, in order; and if the reference device of R70, at cursor address A, gives these answers,
then bits 6:0 of the byte responded are (A + n) mod DISP_SPAN. DISP_SPAN is any modulus that fits the
seven bits. -/
def Obligations.StringThenStatusGivesTheCursor : Prop :=
  ∀ (s : State) (chars polls answers : List Byte) (b : Byte) (slots : List Slot)
    (words : List OpWord),
    s.dseq = .idle → polls.length = chars.length → (∀ p ∈ polls, p.getLsbD 7 = false) →
    s.env.slots = chars.flatMap (fun _ => operationSlots 2) ++ (operationSlots 1 ++ slots) →
    s.env.words = (wrstr chars ++ [Instr.rdstat 0]).map encode ++ words →
    s.env.answers = polls ++ b :: answers →
    ∃ t log, runSteps (3 * chars.length + 2) s = .next t ∧
      log = (List.zipWith (fun p c => [BusEvent.rd 0 p, .wr 1 c]) polls chars).flatten ++ [.rd 0 b] ∧
      t.busLog = s.busLog ++ log ∧ t.dseq = .idle ∧
      t.responses = s.responses ++ List.replicate chars.length ⟨.ok, s.word 0⟩
        ++ [⟨.ok, s.word b.toNat⟩] ∧
      ∀ d d' : RefDevice, 0 < d.span → d.span ≤ 128 → d.ac < d.span → d.replay s.commands log = some d' →
        b.toNat % 128 = (d.ac + chars.length) % d.span

/-- R120: the engine writes nothing of the other two units; with DSEQ = IDLE its turn changes nothing
(that it passes is log entry 2); nothing but an ENGINE micro-step of an operation in flight appends to
BUSLOG. The last clause, that DARG and DADDR change only at the issue of a display operation and at
RESET and so are kept while DSEQ = IDLE, is the model's: R31 leaves them unspecified then (log entry 18,
unsafe). -/
def Obligations.EngineTouchesOnlyItsOwnState : Prop :=
  ∀ s t : State, step s = .next t →
    (s.env.nextSlot = .engine → t.debounceAndTick = s.debounceAndTick) ∧
    (s.env.nextSlot = .engine → s.dseq = .idle → t = { s with env := s.env.dropSlot }) ∧
    (t.busLog ≠ s.busLog → s.env.nextSlot = .engine ∧ s.dseq ≠ .idle) ∧
    (t.darg ≠ s.darg ∨ t.daddr ≠ s.daddr → s.env.nextSlot = .reset ∨
      s.env.nextSlot = .host ∧ s.dseq = .idle ∧ (t.dseq = .poll ∨ t.dseq = .read))

/-- R33, R138: the only transfers of DSEQ. -/
def Obligations.SequencerTransfers : Prop :=
  ∀ s t : State, step s = .next t → t.dseq ≠ s.dseq →
    (s.env.nextSlot = .reset ∧ t.dseq = .idle) ∨
    (s.env.nextSlot = .host ∧ s.dseq = .idle ∧
      (t.dseq = .poll ∨ t.dseq = .read ∨ t.dseq = .init 0)) ∨
    (s.env.nextSlot = .engine ∧
      ((s.dseq = .poll ∧ t.dseq = .write) ∨ (s.dseq = .write ∧ t.dseq = .idle) ∨
        (s.dseq = .read ∧ t.dseq = .idle) ∨
        (∃ k k' : Fin 9, s.dseq = .init k ∧ t.dseq = .init k' ∧ k'.val = k.val + 1) ∨
        (s.dseq = .init 8 ∧ t.dseq = .idle)))

/-- R134: over any run of ENGINE micro-steps and SAMPLE and TICK events, the debounce filter and the tick
counter end as if there had been no micro-step, and the display engine with BUSLOG ends as if there had
been no event. That a turn of the idle engine passes is log entry 2. -/
def Obligations.EngineAndEventsDoNotInterfere : Prop :=
  ∀ (slots : List Slot) (s : State), s.Inv → .host ∉ slots → .reset ∉ slots →
    ∃ t u v, runSlots slots s = .next t ∧
      runSlots (slots.filter Slot.isPeriodic) s = .next u ∧
      runSlots (slots.filter fun a => !a.isPeriodic) s = .next v ∧
      t.debounceAndTick = u.debounceAndTick ∧ t.displayPart = v.displayPart

/-- R214, R128, R12: RDSTAT and INIT cannot hang: in every execution without RESET that meets R12's
progress assumptions, one that is in flight comes to IDLE, with its one response added. -/
def Obligations.StatusReadAndInitComplete : Prop :=
  ∀ (schedule : Nat → Slot) (run : Nat → State) (n : Nat),
    fairExecution schedule run → withoutReset schedule →
    (run n).dseq = .read ∨ (∃ k, (run n).dseq = .init k) →
    ∃ m data, n < m ∧ (run m).dseq = .idle ∧
      (run m).responses = (run n).responses ++ [⟨.ok, data⟩]

/-- R70: the reference device: a data write advances AC by one modulo DISP_SPAN, a status read is
answered with AC in bits 6:0 and any busy flag and leaves AC alone, clear-display sets AC to 0, and the
other three commands of INIT, where their bytes are not that of clear-display, leave it alone. -/
def Obligations.ReferenceDeviceFollowsItsTable : Prop :=
  ∀ (d : RefDevice) (c : CommandBytes) (v : Byte),
    d.onEvent c (.wr 1 v) = some { d with ac := (d.ac + 1) % d.span } ∧
    (d.onEvent c (.rd 0 v) = some d ↔ v.toNat % 128 = d.ac % 128) ∧
    d.onEvent c (.wr 0 c.clear) = some { d with ac := 0 } ∧
    (c.functionSet ≠ c.clear → d.onEvent c (.wr 0 c.functionSet) = some d) ∧
    (c.displayCtrl ≠ c.clear → d.onEvent c (.wr 0 c.displayCtrl) = some d) ∧
    (c.entryMode ≠ c.clear → d.onEvent c (.wr 0 c.entryMode) = some d)

/-! ### The debounce filter -/

/-- R161, R171: DBSTEP. The count after step 2 decides; it never wraps. -/
def Obligations.DebounceStep : Prop :=
  ∀ (ch : Channel) (current : Bool) (count : Nat), ch.cnt.toNat ≤ 9 →
    count = (if current = ch.prev then ch.cnt.toNat + 1 else 0) →
    (ch.dbStep current).raw = current ∧ (ch.dbStep current).prev = current ∧
    (count = 10 → (ch.dbStep current).cnt = 0 ∧ (ch.dbStep current).stable = current) ∧
    (count ≠ 10 → (ch.dbStep current).cnt.toNat = count ∧ (ch.dbStep current).stable = ch.stable)

/-- R160: a SAMPLE event steps both channels, each from its own pin, when SMPEN = 1, and changes nothing
when SMPEN = 0. -/
def Obligations.SampleEventStepsBothChannels : Prop :=
  ∀ (s : State) (btn1 btn2 : Bool), s.env.nextSlot = .sample btn1 btn2 →
    (s.smpen = true → s.ch1.cnt.toNat ≤ 9 → s.ch2.cnt.toNat ≤ 9 →
      step s = .next { s with
        ch1 := s.ch1.dbStep btn1, ch2 := s.ch2.dbStep btn2, env := s.env.dropSlot }) ∧
    (s.smpen = false → step s = .next { s with env := s.env.dropSlot })

/-- R171, U17: an unmasked SAMPLE event on a channel whose count is 10 or more is outside the spec: the
model refuses it by name (log entry 10). -/
def Obligations.SampleOutsideTheInvariantIsRefused : Prop :=
  ∀ (s : State) (btn1 btn2 : Bool), s.env.nextSlot = .sample btn1 btn2 → s.smpen = true →
    (10 ≤ s.ch1.cnt.toNat ∨ 10 ≤ s.ch2.cnt.toNat) → step s = .refused .counterOutOfRange

/-- R160, R173: over any run of SAMPLE events with SMPEN = 1 each channel follows its own pin by DBSTEP,
whatever the other channel does; nothing else changes. -/
def Obligations.ChannelsFollowTheirOwnPins : Prop :=
  ∀ (pins : List (Bool × Bool)) (s : State), s.Inv → s.smpen = true →
    runSlots (pins.map fun p => .sample p.1 p.2) s = .next { s with
      ch1 := s.ch1.samples (pins.map Prod.fst)
      ch2 := s.ch2.samples (pins.map Prod.snd) }

/-- R167: after a change of level, the next ten samples do not commit and CNT counts 0 to 9; the
eleventh identical sample commits. -/
def Obligations.ElevenIdenticalSamplesCommit : Prop :=
  ∀ (ch : Channel) (level : Bool), ch.cnt.toNat ≤ 9 → ch.prev ≠ level →
    (∀ k, k ≤ 9 → ch.samples (List.replicate (k + 1) level)
      = ⟨level, level, BitVec.ofNat 4 k, ch.stable⟩) ∧
    ch.samples (List.replicate 11 level) = ⟨level, level, 0, level⟩

/-- R168: while the samples do not change, CNT counts modulo 10 and a commit comes on every tenth step;
from reset with samples all 0 the commits are at samples 10, 20, 30, ..., after a change at sample n at
n+10, n+20, .... -/
def Obligations.SteadyInputCommitsEveryTenthStep : Prop :=
  (∀ (ch : Channel) (n : Nat), ch.Inv →
    ch.samples (List.replicate n ch.prev) = ⟨ch.prev, ch.prev,
      BitVec.ofNat 4 ((ch.cnt.toNat + n) % 10),
      if 10 ≤ ch.cnt.toNat + n then ch.prev else ch.stable⟩ ∧
    ((ch.samples (List.replicate n ch.prev)).commits ch.prev = true ↔
      (ch.cnt.toNat + n + 1) % 10 = 0)) ∧
  (∀ n, (Channel.reset.samples (List.replicate n false)).commits false = true ↔ (n + 1) % 10 = 0) ∧
  (∀ (ch : Channel) (n : Nat), ch.cnt.toNat ≤ 9 →
    ((ch.samples (List.replicate (n + 1) !ch.prev)).commits (!ch.prev) = true ↔ (n + 1) % 10 = 0))

/-- R169: a disagreement resets the count and never commits; after a one-sample glitch at sample g the
earliest commit is at g+11; alternating samples keep CNT at 0 and STABLE as it is; a masked SAMPLE event
is no sample, so the next one is compared with the same PREV. -/
def Obligations.DisagreementResetsTheCount : Prop :=
  (∀ (ch : Channel) (current : Bool), current ≠ ch.prev →
    ch.dbStep current = ⟨current, current, 0, ch.stable⟩ ∧ ch.commits current = false) ∧
  (∀ (ch : Channel) (k : Nat), k ≤ 10 →
    ((ch.samples ((!ch.prev) :: List.replicate k ch.prev)).commits ch.prev = true ↔ k = 10)) ∧
  (∀ (ch : Channel) (n : Nat),
    (ch.samples (alternating (!ch.prev) (n + 1))).cnt = 0 ∧
    (ch.samples (alternating (!ch.prev) (n + 1))).stable = ch.stable) ∧
  (∀ (s : State) (btn1 btn2 : Bool), s.smpen = false → s.env.nextSlot = .sample btn1 btn2 →
    step s = .next { s with env := s.env.dropSlot })

/-- R170 (b), (c): from reset, a commit has ten equal samples behind it (sample 0 being the reset value
of PREV), and STABLE equals the level then; and, from every channel that meets R25, STABLE never differs
from a level that has held for eleven samples. -/
def Obligations.StableFollowsALevelThatHolds : Prop :=
  (∀ (older : List Bool) (level : Bool),
    (Channel.reset.samples older).commits level = true →
    (∃ before, false :: older = before ++ List.replicate 10 level) ∧
    ((Channel.reset.samples older).dbStep level).stable = level) ∧
  (∀ (ch : Channel) (older : List Bool) (level : Bool), ch.Inv →
    (ch.samples (older ++ List.replicate 11 level)).stable = level)

/-- R162: RDBTN c responds STABLE[c], 1 = Pressed and 0 = Released, and changes nothing. -/
def Obligations.ButtonReadRespondsTheStableLevel : Prop :=
  ∀ s : State, s.dseq = .idle →
    exec (.rdbtn 1) s = .next { s with
      responses := s.responses ++ [⟨.ok, s.word (if s.ch1.stable then 1 else 0)⟩] } ∧
    exec (.rdbtn 2) s = .next { s with
      responses := s.responses ++ [⟨.ok, s.word (if s.ch2.stable then 1 else 0)⟩] }

/-- R163: RDCH c responds the 8-bit pack of channel c, and changes nothing. -/
def Obligations.ChannelReadRespondsThePack : Prop :=
  ∀ s : State, s.dseq = .idle →
    ∀ (c : Nibble) (ch : Channel), (c = 1 ∧ ch = s.ch1) ∨ (c = 2 ∧ ch = s.ch2) →
      ∃ p : Byte,
        exec (.rdch c) s = .next { s with
          responses := s.responses ++ [⟨.ok, s.word p.toNat⟩] } ∧
        p.getLsbD 0 = ch.stable ∧ p.getLsbD 1 = ch.prev ∧ p.getLsbD 2 = ch.raw ∧
        p.getLsbD 3 = false ∧ p.extractLsb' 4 4 = ch.cnt

/-- RDBTN and RDCH of a channel other than 1 and 2, as terms (no legal word decodes to one): answered
(ILLEGAL, 0), with nothing else changed. The model's choice for such terms: log entry 12. -/
def Obligations.ChannelOutsideOneAndTwoIsIllegal : Prop :=
  ∀ (s : State) (c : Nibble), s.dseq = .idle → legalChannel c = false →
    exec (.rdbtn c) s = .next { s with responses := s.responses ++ [⟨.illegal, s.word 0⟩] } ∧
    exec (.rdch c) s = .next { s with responses := s.responses ++ [⟨.illegal, s.word 0⟩] }

/-- R164, R165: SMPDIS and SMPEN write SMPEN and respond (OK, 0); they change nothing else. -/
def Obligations.SampleMaskIsClearedAndSet : Prop :=
  ∀ s : State, s.dseq = .idle →
    exec .smpdis s = .next { s with smpen := false, responses := s.responses ++ [⟨.ok, s.word 0⟩] } ∧
    exec .smpen s = .next { s with smpen := true, responses := s.responses ++ [⟨.ok, s.word 0⟩] }

/-- R166, R74: SNAPSHOT responds STABLE[1] and STABLE[2] as they both stood at its SMPDIS, whatever
events fall between its four operations, and leaves SMPEN = 1. That a turn of the idle engine passes is
log entry 2. -/
def Obligations.SnapshotIsConsistent : Prop :=
  ∀ (s : State) (gap1 gap2 gap3 rest : List Slot) (words : List OpWord),
    s.dseq = .idle → s.env.words = snapshot.map encode ++ words →
    s.env.slots = .host :: gap1 ++ .host :: gap2 ++ .host :: gap3 ++ .host :: rest →
    .host ∉ gap1 ++ gap2 ++ gap3 → .reset ∉ gap1 ++ gap2 ++ gap3 →
    ∃ t, runSteps (gap1.length + gap2.length + gap3.length + 4) s = .next t ∧
      t.responses = s.responses ++
        [⟨.ok, s.word 0⟩, ⟨.ok, s.word (if s.ch1.stable then 1 else 0)⟩, ⟨.ok, s.word (if s.ch2.stable then 1 else 0)⟩,
          ⟨.ok, s.word 0⟩] ∧
      t.ch1 = s.ch1 ∧ t.ch2 = s.ch2 ∧ t.smpen = true

/-! ### The tick counter -/

/-- R190: the TICK event, in every state: plus one modulo 2^TICK_W, and nothing else. -/
def Obligations.TickEventIncrements : Prop :=
  ∀ s : State, s.env.nextSlot = .tick →
    ∃ n : BitVec s.tick.width, n.toNat = (s.tick.bits.toNat + 1) % 2 ^ s.tick.width ∧
      step s = .next { s with tick := ⟨s.tick.width, n⟩, env := s.env.dropSlot }

/-- R191, R192: RDTICK responds the whole of TICK and changes nothing; CLRTICK sets TICK to 0 and
responds (OK, 0). -/
def Obligations.TickIsReadAndCleared : Prop :=
  ∀ s : State, s.dseq = .idle →
    exec .rdtick s = .next { s with responses := s.responses ++ [⟨.ok, s.tick⟩] } ∧
    exec .clrtick s = .next { s with tick := s.word 0, responses := s.responses ++ [⟨.ok, s.word 0⟩] }

/-- R194, R195: over any run with n TICK events and no CLRTICK and no RESET, TICK advances by n modulo
2^TICK_W, so the difference of two reads is exact; after a clear it is n mod 2^TICK_W itself. That a
turn of a blocked host or of an idle engine passes is log entry 2. -/
def Obligations.TickCountsTheEvents : Prop :=
  ∀ (s : State) (slots rest : List Slot), s.Inv → s.env.slots = slots ++ rest → .reset ∉ slots →
    slots.count .host ≤ s.env.words.length →
    (∀ w ∈ s.env.words, decode w ≠ .ok .clrtick) →
    ∃ t, runSteps slots.length s = .next t ∧
      t.tick.width = s.tick.width ∧
      (t.tick.bits.toNat + 2 ^ s.tick.width - s.tick.bits.toNat) % 2 ^ s.tick.width
        = slots.count .tick % 2 ^ s.tick.width ∧
      (s.tick.bits = 0 → t.tick.bits.toNat = slots.count .tick % 2 ^ s.tick.width)

/-- R197: CLRTICK then TICK leaves 1, TICK then CLRTICK leaves 0, and both in one clock cycle leave 1. -/
def Obligations.ClearNearATick : Prop :=
  ∀ (s : State) (rest : List Slot) (words : List OpWord), s.dseq = .idle →
    s.env.words = encode .clrtick :: words →
    (s.env.slots = [.host, .tick] ++ rest → ∃ t, runSteps 2 s = .next t ∧ t.tick = s.word 1) ∧
    (s.env.slots = [.tick, .host] ++ rest → ∃ t, runSteps 2 s = .next t ∧ t.tick = s.word 0) ∧
    (s.env.slots = Cycle.slots ⟨false, true, none, true⟩ s.inFlight ++ rest →
      ∃ t, runSteps 2 s = .next t ∧ t.tick = s.word 1)

/-- R193, R95: TICK_W is a parameter: every step keeps it, every response it gives has that width, and a
width of at least 13 stays one. That State.reset has 32 is the spec's default (PRESUMED, log entry 6). -/
def Obligations.TickWidthIsAParameter : Prop :=
  State.reset.tickW = 32 ∧ State.reset.legalTickW ∧
  ∀ s t : State, step s = .next t →
    t.tickW = s.tickW ∧ (s.legalTickW → t.legalTickW) ∧
    ∀ r ∈ t.responses, r ∈ s.responses ∨ r.data.width = s.tickW

/-! ### RESET and the whole machine -/

/-- R250, R251, R252: the RESET event, in every state. DARG and DADDR take values of which nothing is
said; BUSLOG and the command bytes are kept, and no response is given (the environment only moves on). -/
def Obligations.ResetEventRestoresTheRegisters : Prop :=
  ∀ s : State, s.env.nextSlot = .reset →
    ∃ v a, step s = .next { s with
      ch1 := ⟨false, false, 0, false⟩, ch2 := ⟨false, false, 0, false⟩
      smpen := true, tick := s.word 0, dseq := .idle, darg := v, daddr := a
      env := { s.env.dropSlot with fresh := s.env.dropSlot.fresh + 1 } }

/-- R73, R173, R199, R216: what can change each shared field: the channels only an unmasked SAMPLE and
RESET, STABLE only a commit and RESET, TICK only TICK, CLRTICK and RESET, SMPEN only SMPDIS, SMPEN and
RESET. -/
def Obligations.SharedFieldsHaveTheirWriters : Prop :=
  ∀ s t : State, step s = .next t →
    (t.ch1 ≠ s.ch1 ∨ t.ch2 ≠ s.ch2 →
      s.env.nextSlot = .reset ∨
      s.smpen = true ∧ ∃ btn1 btn2, s.env.nextSlot = .sample btn1 btn2) ∧
    (t.ch1.stable ≠ s.ch1.stable → s.env.nextSlot = .reset ∨
      ∃ btn1 btn2, s.env.nextSlot = .sample btn1 btn2 ∧ s.ch1.commits btn1 = true ∧
        t.ch1.stable = btn1) ∧
    (t.ch2.stable ≠ s.ch2.stable → s.env.nextSlot = .reset ∨
      ∃ btn1 btn2, s.env.nextSlot = .sample btn1 btn2 ∧ s.ch2.commits btn2 = true ∧
        t.ch2.stable = btn2) ∧
    (t.tick ≠ s.tick → s.env.nextSlot = .reset ∨ s.env.nextSlot = .tick ∨
      s.env.nextSlot = .host ∧ s.dseq = .idle ∧ decode s.env.dropSlot.nextWord = .ok .clrtick) ∧
    (t.smpen ≠ s.smpen → s.env.nextSlot = .reset ∨
      s.env.nextSlot = .host ∧ s.dseq = .idle ∧
        (decode s.env.dropSlot.nextWord = .ok .smpdis ∨
          decode s.env.dropSlot.nextWord = .ok .smpen))

/-- R95: every issued operation gets exactly one response: the responses given, with the one owed for
the operation in flight, grow by one at the issue of a word and at no other step; a RESET gives none. -/
def Obligations.EveryOperationGetsOneResponse : Prop :=
  ∀ s t : State, step s = .next t →
    (s.env.nextSlot ≠ .reset →
      t.issuedCount = s.issuedCount + if s.env.nextSlot = .host ∧ s.dseq = .idle then 1 else 0) ∧
    (s.env.nextSlot = .reset → t.responses = s.responses)

/-- R16, R72 (c): BUSLOG is a history: a step keeps what is there and appends at most one entry. The same
of the responses, which are the model's own record (log entry 9): the rules speak of BUSLOG alone. -/
def Obligations.HistoriesOnlyGrow : Prop :=
  ∀ s t : State, step s = .next t →
    (s.busLog <+: t.busLog ∧ t.busLog.length ≤ s.busLog.length + 1) ∧
    (s.responses <+: t.responses ∧ t.responses.length ≤ s.responses.length + 1)

/-- R219: SAMPLE and TICK commute; in one clock cycle RESET wins over everything else, and the host step
comes before the events. -/
def Obligations.EventsCommuteAndResetWins : Prop :=
  (∀ (s : State) (btn1 btn2 : Bool),
    runSlots [.sample btn1 btn2, .tick] s = runSlots [.tick, .sample btn1 btn2] s) ∧
  (∀ (c : Cycle) (inFlight : Bool), c.reset = true → c.slots inFlight = [.reset]) ∧
  (∀ (c : Cycle), c.reset = false → c.main = true →
    (c.slots false).head? = some .host ∧ .host ∉ (c.slots false).tail ∧ .host ∉ c.slots true)
end

