-- ==== Sys2Proof/Laws/Channel.lean ====
section
/-! SUPPORT. What the shared operations of the debounce filter can do: a sample of a channel, the
choice of a channel by its number, and the SAMPLE event. -/

namespace Sys2Proof.Machine

@[simp] theorem Channel.dbStep_raw (ch : Channel) (current : Bool) :
    (ch.dbStep current).raw = current := by unfold Channel.dbStep; split <;> rfl

@[simp] theorem Channel.dbStep_prev (ch : Channel) (current : Bool) :
    (ch.dbStep current).prev = current := by unfold Channel.dbStep; split <;> rfl

theorem Channel.agreements_of_agree {ch : Channel} {current : Bool} (h : current = ch.prev) :
    ch.agreements current = ch.cnt.toNat + 1 := by simp [Channel.agreements, h]

theorem Channel.agreements_of_disagree {ch : Channel} {current : Bool} (h : current ≠ ch.prev) :
    ch.agreements current = 0 := by simp [Channel.agreements, h]

/-- A commit needs an agreeing sample: a disagreement gives 0, "which is never the threshold" (R161). -/
theorem Channel.agree_of_commits {ch : Channel} {current : Bool} (h : ch.commits current = true) :
    current = ch.prev := by
  by_contra hne
  simp [Channel.commits, Channel.agreements_of_disagree hne, Config.dbThresh] at h

/-- R161 whole: a sample commits, or it only moves the count. -/
theorem Channel.dbStep_cases (ch : Channel) (current : Bool) :
    (ch.commits current = true ∧ ch.dbStep current = ⟨current, current, 0, current⟩) ∨
    (ch.commits current = false ∧
      ch.dbStep current
        = ⟨current, current, BitVec.ofNat 4 (ch.agreements current), ch.stable⟩) := by
  unfold Channel.dbStep
  cases ch.commits current
  · exact .inr ⟨rfl, by simp⟩
  · exact .inl ⟨rfl, by simp⟩

@[simp] theorem State.channelAt_one (s : State) : s.channelAt 1#4 = some s.ch1 := rfl

@[simp] theorem State.channelAt_two (s : State) : s.channelAt 2#4 = some s.ch2 := rfl

/-- The channel numbers other than 1 and 2 name nothing (R96). -/
theorem State.channelAt_eq_none (s : State) (c : Nibble) :
    s.channelAt c = none ↔ c ≠ 1 ∧ c ≠ 2 := by
  unfold State.channelAt
  split
  · simp_all
  · split <;> simp_all

/-- Everything a SAMPLE event can do when it answers a next state (R160). -/
theorem sampleEvent_next {btn1 btn2 : Bool} {s t : State} (h : sampleEvent btn1 btn2 s = .next t) :
    (s.smpen = false ∧ t = s) ∨
    (s.smpen = true ∧ s.ch1.inRange = true ∧ s.ch2.inRange = true ∧
      t = s.setChannels (s.ch1.dbStep btn1) (s.ch2.dbStep btn2)) := by
  unfold sampleEvent at h
  split at h
  · next hen =>
    split at h
    · next hr =>
      simp only [Bool.and_eq_true] at hr
      cases h
      exact .inr ⟨hen, hr.1, hr.2, rfl⟩
    · cases h
  · next hen =>
    cases h
    exact .inl ⟨by simpa using hen, rfl⟩

end Sys2Proof.Machine
end

