-- ==== Sys2Proof/Laws/Decode.lean ====
section
/-! SUPPORT. The fields of a word in format H (R91): each is read back as it was put in. -/

namespace Sys2Proof

@[simp] theorem opc_formatH (opc sub : Nibble) (imm8 : Byte) :
    OpWord.opc (formatH opc sub imm8) = opc := by
  ext i hi
  simp only [OpWord.opc, formatH, BitVec.getElem_extractLsb', BitVec.getLsbD_append]
  have h1 : ¬ (12 + i < 8) := by omega
  have h2 : ¬ (12 + i - 8 < 4) := by omega
  have h3 : 12 + i - 8 - 4 = i := by omega
  simp [h1, h2, h3, BitVec.getLsbD_eq_getElem hi]

@[simp] theorem sub_formatH (opc sub : Nibble) (imm8 : Byte) :
    OpWord.sub (formatH opc sub imm8) = sub := by
  ext i hi
  simp only [OpWord.sub, formatH, BitVec.getElem_extractLsb', BitVec.getLsbD_append]
  have h1 : ¬ (8 + i < 8) := by omega
  simp [h1, hi]

@[simp] theorem imm_formatH (opc sub : Nibble) (imm8 : Byte) :
    OpWord.imm (formatH opc sub imm8) = imm8 := by
  ext i hi
  simp only [OpWord.imm, formatH, BitVec.getElem_extractLsb', BitVec.getLsbD_append]
  simp [hi]

/-- A word is its three fields side by side. -/
theorem formatH_fields (w : OpWord) :
    formatH (OpWord.opc w) (OpWord.sub w) (OpWord.imm w) = w := by
  apply BitVec.eq_of_getLsbD_eq
  intro i hi
  simp only [formatH, OpWord.opc, OpWord.sub, OpWord.imm, BitVec.getLsbD_append,
    BitVec.getLsbD_extractLsb']
  by_cases h8 : i < 8
  · simp [h8]
  · by_cases h12 : i - 8 < 4
    · have : 8 + (i - 8) = i := by omega
      simp [h8, h12, this]
    · have : 12 + (i - 8 - 4) = i := by omega
      have : i - 8 - 4 < 4 := by omega
      simp_all

end Sys2Proof
end

