-- ==== Sys2Proof/Laws/State.lean ====
section
/-! SUPPORT. One lemma per field of State per update: what the update writes, and that it leaves every
other field as it was. All are true by unfolding; no proof needs to unfold a record update again. -/

namespace Sys2Proof.Machine

variable (s : State)

/-! ### words of TICK_W bits -/

@[simp] theorem State.word_width (n : Nat) : (s.word n).width = s.tick.width := rfl
@[simp] theorem State.word_toNat (n : Nat) : (s.word n).bits.toNat = n % 2 ^ s.tick.width := by
  simp [State.word, State.tickW]

/-- The words of two states of one TICK_W are the same. -/
theorem State.word_congr {s t : State} (h : t.tick.width = s.tick.width) (n : Nat) :
    t.word n = s.word n :=
  congrArg (fun w => (⟨w, BitVec.ofNat w n⟩ : TickWord)) h

/-- Zero extension keeps the number, modulo 2^TICK_W (R13, R95). -/
theorem State.zext_eq_word {n : Nat} (v : BitVec n) : s.zext v = s.word v.toNat :=
  congrArg (TickWord.mk s.tickW) (BitVec.eq_of_toNat_eq (by simp))

/-- The response for one level: 1 = Pressed, 0 = Released (R95). -/
theorem State.zext_ofBool (level : Bool) :
    s.zext (BitVec.ofBool level) = s.word (if level then 1 else 0) := by
  rw [State.zext_eq_word]; cases level <;> rfl

/-! ### setChannels -/

@[simp] theorem State.setChannels_ch1 (c1 c2 : Channel) : (s.setChannels c1 c2).ch1 = c1 := rfl
@[simp] theorem State.setChannels_ch2 (c1 c2 : Channel) : (s.setChannels c1 c2).ch2 = c2 := rfl
@[simp] theorem State.setChannels_smpen (c1 c2 : Channel) :
    (s.setChannels c1 c2).smpen = s.smpen := rfl
@[simp] theorem State.setChannels_tick (c1 c2 : Channel) :
    (s.setChannels c1 c2).tick = s.tick := rfl
@[simp] theorem State.setChannels_dseq (c1 c2 : Channel) :
    (s.setChannels c1 c2).dseq = s.dseq := rfl
@[simp] theorem State.setChannels_darg (c1 c2 : Channel) :
    (s.setChannels c1 c2).darg = s.darg := rfl
@[simp] theorem State.setChannels_daddr (c1 c2 : Channel) :
    (s.setChannels c1 c2).daddr = s.daddr := rfl
@[simp] theorem State.setChannels_busLog (c1 c2 : Channel) :
    (s.setChannels c1 c2).busLog = s.busLog := rfl
@[simp] theorem State.setChannels_responses (c1 c2 : Channel) :
    (s.setChannels c1 c2).responses = s.responses := rfl
@[simp] theorem State.setChannels_env (c1 c2 : Channel) : (s.setChannels c1 c2).env = s.env := rfl
@[simp] theorem State.setChannels_commands (c1 c2 : Channel) :
    (s.setChannels c1 c2).commands = s.commands := rfl

/-! ### setSmpen -/

@[simp] theorem State.setSmpen_ch1 (b : Bool) : (s.setSmpen b).ch1 = s.ch1 := rfl
@[simp] theorem State.setSmpen_ch2 (b : Bool) : (s.setSmpen b).ch2 = s.ch2 := rfl
@[simp] theorem State.setSmpen_smpen (b : Bool) : (s.setSmpen b).smpen = b := rfl
@[simp] theorem State.setSmpen_tick (b : Bool) : (s.setSmpen b).tick = s.tick := rfl
@[simp] theorem State.setSmpen_dseq (b : Bool) : (s.setSmpen b).dseq = s.dseq := rfl
@[simp] theorem State.setSmpen_darg (b : Bool) : (s.setSmpen b).darg = s.darg := rfl
@[simp] theorem State.setSmpen_daddr (b : Bool) : (s.setSmpen b).daddr = s.daddr := rfl
@[simp] theorem State.setSmpen_busLog (b : Bool) : (s.setSmpen b).busLog = s.busLog := rfl
@[simp] theorem State.setSmpen_responses (b : Bool) : (s.setSmpen b).responses = s.responses := rfl
@[simp] theorem State.setSmpen_env (b : Bool) : (s.setSmpen b).env = s.env := rfl
@[simp] theorem State.setSmpen_commands (b : Bool) : (s.setSmpen b).commands = s.commands := rfl

/-! ### setTick -/

@[simp] theorem State.setTick_ch1 (t : TickWord) : (s.setTick t).ch1 = s.ch1 := rfl
@[simp] theorem State.setTick_ch2 (t : TickWord) : (s.setTick t).ch2 = s.ch2 := rfl
@[simp] theorem State.setTick_smpen (t : TickWord) : (s.setTick t).smpen = s.smpen := rfl
@[simp] theorem State.setTick_tick (t : TickWord) : (s.setTick t).tick = t := rfl
@[simp] theorem State.setTick_dseq (t : TickWord) : (s.setTick t).dseq = s.dseq := rfl
@[simp] theorem State.setTick_darg (t : TickWord) : (s.setTick t).darg = s.darg := rfl
@[simp] theorem State.setTick_daddr (t : TickWord) : (s.setTick t).daddr = s.daddr := rfl
@[simp] theorem State.setTick_busLog (t : TickWord) : (s.setTick t).busLog = s.busLog := rfl
@[simp] theorem State.setTick_responses (t : TickWord) :
    (s.setTick t).responses = s.responses := rfl
@[simp] theorem State.setTick_env (t : TickWord) : (s.setTick t).env = s.env := rfl
@[simp] theorem State.setTick_commands (t : TickWord) : (s.setTick t).commands = s.commands := rfl

/-! ### setDseq -/

@[simp] theorem State.setDseq_ch1 (d : Dseq) : (s.setDseq d).ch1 = s.ch1 := rfl
@[simp] theorem State.setDseq_ch2 (d : Dseq) : (s.setDseq d).ch2 = s.ch2 := rfl
@[simp] theorem State.setDseq_smpen (d : Dseq) : (s.setDseq d).smpen = s.smpen := rfl
@[simp] theorem State.setDseq_tick (d : Dseq) : (s.setDseq d).tick = s.tick := rfl
@[simp] theorem State.setDseq_dseq (d : Dseq) : (s.setDseq d).dseq = d := rfl
@[simp] theorem State.setDseq_darg (d : Dseq) : (s.setDseq d).darg = s.darg := rfl
@[simp] theorem State.setDseq_daddr (d : Dseq) : (s.setDseq d).daddr = s.daddr := rfl
@[simp] theorem State.setDseq_busLog (d : Dseq) : (s.setDseq d).busLog = s.busLog := rfl
@[simp] theorem State.setDseq_responses (d : Dseq) : (s.setDseq d).responses = s.responses := rfl
@[simp] theorem State.setDseq_env (d : Dseq) : (s.setDseq d).env = s.env := rfl
@[simp] theorem State.setDseq_commands (d : Dseq) : (s.setDseq d).commands = s.commands := rfl

/-! ### setDarg -/

@[simp] theorem State.setDarg_ch1 (v : Byte) : (s.setDarg v).ch1 = s.ch1 := rfl
@[simp] theorem State.setDarg_ch2 (v : Byte) : (s.setDarg v).ch2 = s.ch2 := rfl
@[simp] theorem State.setDarg_smpen (v : Byte) : (s.setDarg v).smpen = s.smpen := rfl
@[simp] theorem State.setDarg_tick (v : Byte) : (s.setDarg v).tick = s.tick := rfl
@[simp] theorem State.setDarg_dseq (v : Byte) : (s.setDarg v).dseq = s.dseq := rfl
@[simp] theorem State.setDarg_darg (v : Byte) : (s.setDarg v).darg = v := rfl
@[simp] theorem State.setDarg_daddr (v : Byte) : (s.setDarg v).daddr = s.daddr := rfl
@[simp] theorem State.setDarg_busLog (v : Byte) : (s.setDarg v).busLog = s.busLog := rfl
@[simp] theorem State.setDarg_responses (v : Byte) : (s.setDarg v).responses = s.responses := rfl
@[simp] theorem State.setDarg_env (v : Byte) : (s.setDarg v).env = s.env := rfl
@[simp] theorem State.setDarg_commands (v : Byte) : (s.setDarg v).commands = s.commands := rfl

/-! ### setDaddr -/

@[simp] theorem State.setDaddr_ch1 (a : BusAddr) : (s.setDaddr a).ch1 = s.ch1 := rfl
@[simp] theorem State.setDaddr_ch2 (a : BusAddr) : (s.setDaddr a).ch2 = s.ch2 := rfl
@[simp] theorem State.setDaddr_smpen (a : BusAddr) : (s.setDaddr a).smpen = s.smpen := rfl
@[simp] theorem State.setDaddr_tick (a : BusAddr) : (s.setDaddr a).tick = s.tick := rfl
@[simp] theorem State.setDaddr_dseq (a : BusAddr) : (s.setDaddr a).dseq = s.dseq := rfl
@[simp] theorem State.setDaddr_darg (a : BusAddr) : (s.setDaddr a).darg = s.darg := rfl
@[simp] theorem State.setDaddr_daddr (a : BusAddr) : (s.setDaddr a).daddr = a := rfl
@[simp] theorem State.setDaddr_busLog (a : BusAddr) : (s.setDaddr a).busLog = s.busLog := rfl
@[simp] theorem State.setDaddr_responses (a : BusAddr) :
    (s.setDaddr a).responses = s.responses := rfl
@[simp] theorem State.setDaddr_env (a : BusAddr) : (s.setDaddr a).env = s.env := rfl
@[simp] theorem State.setDaddr_commands (a : BusAddr) : (s.setDaddr a).commands = s.commands := rfl

/-! ### appendLog -/

@[simp] theorem State.appendLog_ch1 (e : BusEvent) : (s.appendLog e).ch1 = s.ch1 := rfl
@[simp] theorem State.appendLog_ch2 (e : BusEvent) : (s.appendLog e).ch2 = s.ch2 := rfl
@[simp] theorem State.appendLog_smpen (e : BusEvent) : (s.appendLog e).smpen = s.smpen := rfl
@[simp] theorem State.appendLog_tick (e : BusEvent) : (s.appendLog e).tick = s.tick := rfl
@[simp] theorem State.appendLog_dseq (e : BusEvent) : (s.appendLog e).dseq = s.dseq := rfl
@[simp] theorem State.appendLog_darg (e : BusEvent) : (s.appendLog e).darg = s.darg := rfl
@[simp] theorem State.appendLog_daddr (e : BusEvent) : (s.appendLog e).daddr = s.daddr := rfl
@[simp] theorem State.appendLog_busLog (e : BusEvent) :
    (s.appendLog e).busLog = s.busLog ++ [e] := rfl
@[simp] theorem State.appendLog_responses (e : BusEvent) :
    (s.appendLog e).responses = s.responses := rfl
@[simp] theorem State.appendLog_env (e : BusEvent) : (s.appendLog e).env = s.env := rfl
@[simp] theorem State.appendLog_commands (e : BusEvent) :
    (s.appendLog e).commands = s.commands := rfl

/-! ### setEnv -/

@[simp] theorem State.setEnv_ch1 (e : Env) : (s.setEnv e).ch1 = s.ch1 := rfl
@[simp] theorem State.setEnv_ch2 (e : Env) : (s.setEnv e).ch2 = s.ch2 := rfl
@[simp] theorem State.setEnv_smpen (e : Env) : (s.setEnv e).smpen = s.smpen := rfl
@[simp] theorem State.setEnv_tick (e : Env) : (s.setEnv e).tick = s.tick := rfl
@[simp] theorem State.setEnv_dseq (e : Env) : (s.setEnv e).dseq = s.dseq := rfl
@[simp] theorem State.setEnv_darg (e : Env) : (s.setEnv e).darg = s.darg := rfl
@[simp] theorem State.setEnv_daddr (e : Env) : (s.setEnv e).daddr = s.daddr := rfl
@[simp] theorem State.setEnv_busLog (e : Env) : (s.setEnv e).busLog = s.busLog := rfl
@[simp] theorem State.setEnv_responses (e : Env) : (s.setEnv e).responses = s.responses := rfl
@[simp] theorem State.setEnv_env (e : Env) : (s.setEnv e).env = e := rfl
@[simp] theorem State.setEnv_commands (e : Env) : (s.setEnv e).commands = s.commands := rfl

/-! ### memRead -/

@[simp] theorem State.memRead_ch1 (a : BusAddr) : (s.memRead a).ch1 = s.ch1 := rfl
@[simp] theorem State.memRead_ch2 (a : BusAddr) : (s.memRead a).ch2 = s.ch2 := rfl
@[simp] theorem State.memRead_smpen (a : BusAddr) : (s.memRead a).smpen = s.smpen := rfl
@[simp] theorem State.memRead_tick (a : BusAddr) : (s.memRead a).tick = s.tick := rfl
@[simp] theorem State.memRead_dseq (a : BusAddr) : (s.memRead a).dseq = s.dseq := rfl
@[simp] theorem State.memRead_darg (a : BusAddr) : (s.memRead a).darg = s.darg := rfl
@[simp] theorem State.memRead_daddr (a : BusAddr) : (s.memRead a).daddr = s.daddr := rfl
@[simp] theorem State.memRead_busLog (a : BusAddr) :
    (s.memRead a).busLog = s.busLog ++ [.rd a s.readValue] := rfl
@[simp] theorem State.memRead_responses (a : BusAddr) :
    (s.memRead a).responses = s.responses := rfl
@[simp] theorem State.memRead_env (a : BusAddr) : (s.memRead a).env = s.env.dropAnswer := rfl
@[simp] theorem State.memRead_commands (a : BusAddr) : (s.memRead a).commands = s.commands := rfl

/-! ### memWrite -/

@[simp] theorem State.memWrite_ch1 (a : BusAddr) (v : Byte) : (s.memWrite a v).ch1 = s.ch1 := rfl
@[simp] theorem State.memWrite_ch2 (a : BusAddr) (v : Byte) : (s.memWrite a v).ch2 = s.ch2 := rfl
@[simp] theorem State.memWrite_smpen (a : BusAddr) (v : Byte) :
    (s.memWrite a v).smpen = s.smpen := rfl
@[simp] theorem State.memWrite_tick (a : BusAddr) (v : Byte) :
    (s.memWrite a v).tick = s.tick := rfl
@[simp] theorem State.memWrite_dseq (a : BusAddr) (v : Byte) :
    (s.memWrite a v).dseq = s.dseq := rfl
@[simp] theorem State.memWrite_darg (a : BusAddr) (v : Byte) :
    (s.memWrite a v).darg = s.darg := rfl
@[simp] theorem State.memWrite_daddr (a : BusAddr) (v : Byte) :
    (s.memWrite a v).daddr = s.daddr := rfl
@[simp] theorem State.memWrite_busLog (a : BusAddr) (v : Byte) :
    (s.memWrite a v).busLog = s.busLog ++ [.wr a v] := rfl
@[simp] theorem State.memWrite_responses (a : BusAddr) (v : Byte) :
    (s.memWrite a v).responses = s.responses := rfl
@[simp] theorem State.memWrite_env (a : BusAddr) (v : Byte) : (s.memWrite a v).env = s.env := rfl
@[simp] theorem State.memWrite_commands (a : BusAddr) (v : Byte) :
    (s.memWrite a v).commands = s.commands := rfl

/-! ### wait -/

@[simp] theorem State.wait_ch1 (d : Nat) : (s.wait d).ch1 = s.ch1 := rfl
@[simp] theorem State.wait_ch2 (d : Nat) : (s.wait d).ch2 = s.ch2 := rfl
@[simp] theorem State.wait_smpen (d : Nat) : (s.wait d).smpen = s.smpen := rfl
@[simp] theorem State.wait_tick (d : Nat) : (s.wait d).tick = s.tick := rfl
@[simp] theorem State.wait_dseq (d : Nat) : (s.wait d).dseq = s.dseq := rfl
@[simp] theorem State.wait_darg (d : Nat) : (s.wait d).darg = s.darg := rfl
@[simp] theorem State.wait_daddr (d : Nat) : (s.wait d).daddr = s.daddr := rfl
@[simp] theorem State.wait_busLog (d : Nat) : (s.wait d).busLog = s.busLog ++ [.dly d] := rfl
@[simp] theorem State.wait_responses (d : Nat) : (s.wait d).responses = s.responses := rfl
@[simp] theorem State.wait_env (d : Nat) : (s.wait d).env = s.env := rfl
@[simp] theorem State.wait_commands (d : Nat) : (s.wait d).commands = s.commands := rfl

/-! ### respond -/

@[simp] theorem State.respond_ch1 (st : Status) (v : TickWord) :
    (s.respond st v).ch1 = s.ch1 := rfl
@[simp] theorem State.respond_ch2 (st : Status) (v : TickWord) :
    (s.respond st v).ch2 = s.ch2 := rfl
@[simp] theorem State.respond_smpen (st : Status) (v : TickWord) :
    (s.respond st v).smpen = s.smpen := rfl
@[simp] theorem State.respond_tick (st : Status) (v : TickWord) :
    (s.respond st v).tick = s.tick := rfl
@[simp] theorem State.respond_dseq (st : Status) (v : TickWord) :
    (s.respond st v).dseq = s.dseq := rfl
@[simp] theorem State.respond_darg (st : Status) (v : TickWord) :
    (s.respond st v).darg = s.darg := rfl
@[simp] theorem State.respond_daddr (st : Status) (v : TickWord) :
    (s.respond st v).daddr = s.daddr := rfl
@[simp] theorem State.respond_busLog (st : Status) (v : TickWord) :
    (s.respond st v).busLog = s.busLog := rfl
@[simp] theorem State.respond_responses (st : Status) (v : TickWord) :
    (s.respond st v).responses = s.responses ++ [⟨st, v⟩] := rfl
@[simp] theorem State.respond_env (st : Status) (v : TickWord) :
    (s.respond st v).env = s.env := rfl
@[simp] theorem State.respond_commands (st : Status) (v : TickWord) :
    (s.respond st v).commands = s.commands := rfl

/-! ### respondOk -/

@[simp] theorem State.respondOk_ch1 (v : TickWord) : (s.respondOk v).ch1 = s.ch1 := rfl
@[simp] theorem State.respondOk_ch2 (v : TickWord) : (s.respondOk v).ch2 = s.ch2 := rfl
@[simp] theorem State.respondOk_smpen (v : TickWord) : (s.respondOk v).smpen = s.smpen := rfl
@[simp] theorem State.respondOk_tick (v : TickWord) : (s.respondOk v).tick = s.tick := rfl
@[simp] theorem State.respondOk_dseq (v : TickWord) : (s.respondOk v).dseq = s.dseq := rfl
@[simp] theorem State.respondOk_darg (v : TickWord) : (s.respondOk v).darg = s.darg := rfl
@[simp] theorem State.respondOk_daddr (v : TickWord) : (s.respondOk v).daddr = s.daddr := rfl
@[simp] theorem State.respondOk_busLog (v : TickWord) : (s.respondOk v).busLog = s.busLog := rfl
@[simp] theorem State.respondOk_responses (v : TickWord) :
    (s.respondOk v).responses = s.responses ++ [⟨.ok, v⟩] := rfl
@[simp] theorem State.respondOk_env (v : TickWord) : (s.respondOk v).env = s.env := rfl
@[simp] theorem State.respondOk_commands (v : TickWord) :
    (s.respondOk v).commands = s.commands := rfl

/-! ### respondZero -/

@[simp] theorem State.respondZero_ch1 : (s.respondZero).ch1 = s.ch1 := rfl
@[simp] theorem State.respondZero_ch2 : (s.respondZero).ch2 = s.ch2 := rfl
@[simp] theorem State.respondZero_smpen : (s.respondZero).smpen = s.smpen := rfl
@[simp] theorem State.respondZero_tick : (s.respondZero).tick = s.tick := rfl
@[simp] theorem State.respondZero_dseq : (s.respondZero).dseq = s.dseq := rfl
@[simp] theorem State.respondZero_darg : (s.respondZero).darg = s.darg := rfl
@[simp] theorem State.respondZero_daddr : (s.respondZero).daddr = s.daddr := rfl
@[simp] theorem State.respondZero_busLog : (s.respondZero).busLog = s.busLog := rfl
@[simp] theorem State.respondZero_responses :
    (s.respondZero).responses = s.responses ++ [⟨.ok, s.word 0⟩] := rfl
@[simp] theorem State.respondZero_env : (s.respondZero).env = s.env := rfl
@[simp] theorem State.respondZero_commands :
    (s.respondZero).commands = s.commands := rfl

/-! ### raiseIllegal -/

@[simp] theorem State.raiseIllegal_ch1 : (s.raiseIllegal).ch1 = s.ch1 := rfl
@[simp] theorem State.raiseIllegal_ch2 : (s.raiseIllegal).ch2 = s.ch2 := rfl
@[simp] theorem State.raiseIllegal_smpen : (s.raiseIllegal).smpen = s.smpen := rfl
@[simp] theorem State.raiseIllegal_tick : (s.raiseIllegal).tick = s.tick := rfl
@[simp] theorem State.raiseIllegal_dseq : (s.raiseIllegal).dseq = s.dseq := rfl
@[simp] theorem State.raiseIllegal_darg : (s.raiseIllegal).darg = s.darg := rfl
@[simp] theorem State.raiseIllegal_daddr : (s.raiseIllegal).daddr = s.daddr := rfl
@[simp] theorem State.raiseIllegal_busLog : (s.raiseIllegal).busLog = s.busLog := rfl
@[simp] theorem State.raiseIllegal_responses :
    (s.raiseIllegal).responses = s.responses ++ [⟨.illegal, s.word 0⟩] := rfl
@[simp] theorem State.raiseIllegal_env : (s.raiseIllegal).env = s.env := rfl
@[simp] theorem State.raiseIllegal_commands : (s.raiseIllegal).commands = s.commands := rfl

/-! ### issueWrite -/

@[simp] theorem State.issueWrite_ch1 (a : BusAddr) (v : Byte) :
    (s.issueWrite a v).ch1 = s.ch1 := rfl
@[simp] theorem State.issueWrite_ch2 (a : BusAddr) (v : Byte) :
    (s.issueWrite a v).ch2 = s.ch2 := rfl
@[simp] theorem State.issueWrite_smpen (a : BusAddr) (v : Byte) :
    (s.issueWrite a v).smpen = s.smpen := rfl
@[simp] theorem State.issueWrite_tick (a : BusAddr) (v : Byte) :
    (s.issueWrite a v).tick = s.tick := rfl
@[simp] theorem State.issueWrite_dseq (a : BusAddr) (v : Byte) :
    (s.issueWrite a v).dseq = .poll := rfl
@[simp] theorem State.issueWrite_darg (a : BusAddr) (v : Byte) : (s.issueWrite a v).darg = v := rfl
@[simp] theorem State.issueWrite_daddr (a : BusAddr) (v : Byte) :
    (s.issueWrite a v).daddr = a := rfl
@[simp] theorem State.issueWrite_busLog (a : BusAddr) (v : Byte) :
    (s.issueWrite a v).busLog = s.busLog := rfl
@[simp] theorem State.issueWrite_responses (a : BusAddr) (v : Byte) :
    (s.issueWrite a v).responses = s.responses := rfl
@[simp] theorem State.issueWrite_env (a : BusAddr) (v : Byte) :
    (s.issueWrite a v).env = s.env := rfl
@[simp] theorem State.issueWrite_commands (a : BusAddr) (v : Byte) :
    (s.issueWrite a v).commands = s.commands := rfl

/-! ### the RESET event -/

@[simp] theorem resetEvent_ch1 : (resetEvent s).ch1 = Channel.reset := rfl
@[simp] theorem resetEvent_ch2 : (resetEvent s).ch2 = Channel.reset := rfl
@[simp] theorem resetEvent_smpen : (resetEvent s).smpen = true := rfl
@[simp] theorem resetEvent_tick : (resetEvent s).tick = s.word 0 := rfl
@[simp] theorem resetEvent_dseq : (resetEvent s).dseq = .idle := rfl
@[simp] theorem resetEvent_darg : (resetEvent s).darg = Config.freeDarg s.env.fresh := rfl
@[simp] theorem resetEvent_daddr : (resetEvent s).daddr = Config.freeDaddr s.env.fresh := rfl
@[simp] theorem resetEvent_busLog : (resetEvent s).busLog = s.busLog := rfl
@[simp] theorem resetEvent_responses : (resetEvent s).responses = s.responses := rfl
@[simp] theorem resetEvent_env : (resetEvent s).env = s.env.draw := rfl
@[simp] theorem resetEvent_commands : (resetEvent s).commands = s.commands := rfl

end Sys2Proof.Machine
end

