-- ==== Sys2Proof/Laws/Display.lean ====
section
/-! SUPPORT. What the micro-steps of the display engine can do, by DSEQ. -/

namespace Sys2Proof.Machine

/-- The BUSLOG entry of an entry of INITSEQ (R129, R130). -/
def initEvent : InitAction → BusEvent
  | .wait d => .dly d
  | .write v => .wr Config.addrCmd v

/-- An entry of INITSEQ appends its one BUSLOG entry and changes nothing else (R130). -/
theorem State.perform_eq (s : State) (action : InitAction) :
    s.perform action = s.appendLog (initEvent action) := by
  cases action <;> rfl

/-- INIT(k) before the last entry: it goes on to INIT(k+1) (R130). -/
theorem initStep_of_lt {k : Fin 9} (h : k.val < 8) (s : State) :
    initStep k s
      = (s.appendLog (initEvent (initSeq s.commands k))).setDseq (.init ⟨k.val + 1, by omega⟩) := by
  rw [initStep, dif_pos h, State.perform_eq]

/-- INIT(8): the last entry, then IDLE and the response (R130). -/
theorem initStep_last (s : State) :
    initStep 8 s = ((s.appendLog (initEvent (initSeq s.commands 8))).setDseq .idle).respondZero := by
  rw [initStep, dif_neg (by decide), State.perform_eq]

theorem engineStep_of_idle {s : State} (h : s.dseq = .idle) : engineStep s = s := by
  simp only [engineStep, h]

theorem engineStep_of_poll {s : State} (h : s.dseq = .poll) : engineStep s = pollStep s := by
  simp only [engineStep, h]

theorem engineStep_of_write {s : State} (h : s.dseq = .write) : engineStep s = writeStep s := by
  simp only [engineStep, h]

theorem engineStep_of_read {s : State} (h : s.dseq = .read) : engineStep s = readStep s := by
  simp only [engineStep, h]

theorem engineStep_of_init {s : State} {k : Fin 9} (h : s.dseq = .init k) :
    engineStep s = initStep k s := by
  simp only [engineStep, h]

/-- Everything an ENGINE micro-step can do (R124, R125, R127, R130). -/
theorem engineStep_cases (s : State) :
    (s.dseq = .idle ∧ engineStep s = s) ∨
    (s.dseq = .poll ∧ engineStep s = pollStep s) ∨
    (s.dseq = .write ∧ engineStep s = writeStep s) ∨
    (s.dseq = .read ∧ engineStep s = readStep s) ∨
    (∃ (k : Fin 9) (h : k.val < 8), s.dseq = .init k ∧ engineStep s
      = (s.appendLog (initEvent (initSeq s.commands k))).setDseq (.init ⟨k.val + 1, by omega⟩)) ∨
    (s.dseq = .init 8 ∧ engineStep s
      = ((s.appendLog (initEvent (initSeq s.commands 8))).setDseq .idle).respondZero) := by
  rcases h : s.dseq with _ | _ | _ | _ | k
  · exact .inl ⟨rfl, engineStep_of_idle h⟩
  · exact .inr (.inl ⟨rfl, engineStep_of_poll h⟩)
  · exact .inr (.inr (.inl ⟨rfl, engineStep_of_write h⟩))
  · exact .inr (.inr (.inr (.inl ⟨rfl, engineStep_of_read h⟩)))
  · rw [engineStep_of_init h]
    by_cases hk : k.val < 8
    · exact .inr (.inr (.inr (.inr (.inl ⟨k, hk, rfl, initStep_of_lt hk s⟩))))
    · obtain rfl : k = 8 := Fin.ext (by simp; omega)
      exact .inr (.inr (.inr (.inr (.inr ⟨rfl, initStep_last s⟩))))

end Sys2Proof.Machine
end

