-- ==== Sys2Proof/Laws/Env.lean ====
section
/-! SUPPORT. How the environment is consumed: a chosen prefix is used up entry by entry, past its end
the free values are taken, and taking one kind of input leaves the other prefixes alone. -/

namespace Sys2Proof.Machine

variable (e : Env)

theorem Env.nextSlot_of_cons {a : Slot} {rest : List Slot} (h : e.slots = a :: rest) :
    e.nextSlot = a := by simp [Env.nextSlot, h]

theorem Env.dropSlot_of_cons {a : Slot} {rest : List Slot} (h : e.slots = a :: rest) :
    e.dropSlot = { e with slots := rest } := by simp [Env.dropSlot, h]

theorem Env.nextWord_of_cons {w : OpWord} {rest : List OpWord} (h : e.words = w :: rest) :
    e.nextWord = w := by simp [Env.nextWord, h]

theorem Env.dropWord_of_cons {w : OpWord} {rest : List OpWord} (h : e.words = w :: rest) :
    e.dropWord = { e with words := rest } := by simp [Env.dropWord, h]

theorem Env.nextAnswer_of_cons {b : Byte} {rest : List Byte} (h : e.answers = b :: rest) :
    e.nextAnswer = b := by simp [Env.nextAnswer, h]

theorem Env.dropAnswer_of_cons {b : Byte} {rest : List Byte} (h : e.answers = b :: rest) :
    e.dropAnswer = { e with answers := rest } := by simp [Env.dropAnswer, h]

@[simp] theorem Env.dropSlot_words : e.dropSlot.words = e.words := by
  unfold Env.dropSlot; split <;> rfl

@[simp] theorem Env.dropSlot_answers : e.dropSlot.answers = e.answers := by
  unfold Env.dropSlot; split <;> rfl

@[simp] theorem Env.dropSlot_slots : e.dropSlot.slots = e.slots.tail := by
  unfold Env.dropSlot; split <;> simp_all [Env.draw]

@[simp] theorem Env.dropWord_slots : e.dropWord.slots = e.slots := by
  unfold Env.dropWord; split <;> rfl

@[simp] theorem Env.dropWord_answers : e.dropWord.answers = e.answers := by
  unfold Env.dropWord; split <;> rfl

@[simp] theorem Env.dropWord_words : e.dropWord.words = e.words.tail := by
  unfold Env.dropWord; split <;> simp_all [Env.draw]

@[simp] theorem Env.dropAnswer_slots : e.dropAnswer.slots = e.slots := by
  unfold Env.dropAnswer; split <;> rfl

@[simp] theorem Env.dropAnswer_words : e.dropAnswer.words = e.words := by
  unfold Env.dropAnswer; split <;> rfl

@[simp] theorem Env.dropAnswer_answers : e.dropAnswer.answers = e.answers.tail := by
  unfold Env.dropAnswer; split <;> simp_all [Env.draw]

@[simp] theorem Env.nextWord_with_slots (x : List Slot) :
    Env.nextWord { e with slots := x } = e.nextWord := rfl

@[simp] theorem Env.nextAnswer_with_slots (x : List Slot) :
    Env.nextAnswer { e with slots := x } = e.nextAnswer := rfl

@[simp] theorem Env.dropWord_with_slots (x : List Slot) :
    Env.dropWord { e with slots := x } = { e.dropWord with slots := x } := by
  obtain ⟨_, words, _, _⟩ := e
  cases words <;> rfl

@[simp] theorem Env.dropAnswer_with_slots (x : List Slot) :
    Env.dropAnswer { e with slots := x } = { e.dropAnswer with slots := x } := by
  obtain ⟨_, _, answers, _⟩ := e
  cases answers <;> rfl

end Sys2Proof.Machine
end

