-- ==== Sys2Proof/Laws/PerInstr.lean ====
section
/-! SUPPORT. One lemma per operation: its words stand in its own row of R94's table, by the match and
mask columns. -/

namespace Sys2Proof.Laws.RowMatch

/-- The word of the operation, under its row's mask, is its row's match (R94). -/
def Statement (i : Instr) : Prop :=
  i.wellFormed = true → encode i &&& i.maskBits = i.matchBits

theorem wrcmd (imm8 : Byte) : Statement (.wrcmd imm8) := by
  intro _; revert imm8; decide

theorem wrdata (imm8 : Byte) : Statement (.wrdata imm8) := by
  intro _; revert imm8; decide

theorem rdstat (a : BusAddr) : Statement (.rdstat a) := by
  intro _; revert a; decide

theorem init : Statement .init := fun _ => rfl

theorem rdbtn (c : Nibble) : Statement (.rdbtn c) := by
  unfold Statement; revert c; decide

theorem rdch (c : Nibble) : Statement (.rdch c) := by
  unfold Statement; revert c; decide

theorem smpdis : Statement .smpdis := fun _ => rfl

theorem smpen : Statement .smpen := fun _ => rfl

theorem rdtick : Statement .rdtick := fun _ => rfl

theorem clrtick : Statement .clrtick := fun _ => rfl

end Sys2Proof.Laws.RowMatch
end

