-- ==== Sys2Proof/Laws/Step.lean ====
section
/-! SUPPORT. Everything a step can do, said once: inversion lemmas of the step, of the HOST's turn and
of the issue of a word (those of the ENGINE are in Laws/Display.lean). -/

namespace Sys2Proof.Machine

theorem State.inFlight_eq_false (s : State) : s.inFlight = false ↔ s.dseq = .idle := by
  simp [State.inFlight]

theorem State.inFlight_eq_true (s : State) : s.inFlight = true ↔ s.dseq ≠ .idle := by
  simp [State.inFlight]

/-- No operation stops: each answers a next state (R214). -/
theorem exec_answers_next (i : Instr) (s : State) : ∃ t, exec i s = .next t := by
  cases i with
  | rdbtn c => simp only [exec, execRdbtn]; split <;> exact ⟨_, rfl⟩
  | rdch c => simp only [exec, execRdch]; split <;> exact ⟨_, rfl⟩
  | _ => exact ⟨_, rfl⟩

/-- The issue of a word answers a next state, whatever the word. -/
theorem issueWord_answers_next (w : OpWord) (s : State) : ∃ t, issueWord w s = .next t := by
  unfold issueWord
  split
  · exact exec_answers_next _ _
  · exact ⟨_, rfl⟩

/-- What the HOST's turn can do: it passes while an operation is in flight, or a word is issued. -/
theorem hostStep_cases {s t : State} (h : hostStep s = .next t) :
    (s.dseq ≠ .idle ∧ t = s) ∨
    (s.dseq = .idle ∧ issueWord s.env.nextWord (s.setEnv s.env.dropWord) = .next t) := by
  unfold hostStep at h
  split at h
  · next hf => cases h; exact .inl ⟨(s.inFlight_eq_true).1 hf, rfl⟩
  · next hf => exact .inr ⟨(s.inFlight_eq_false).1 (by simpa using hf), h⟩

/-- What the issue of a word can do: it runs the operation that the word decodes to, or is answered
ILLEGAL (R96, R212). -/
theorem issueWord_cases {w : OpWord} {s t : State} (h : issueWord w s = .next t) :
    (∃ i, decode w = .ok i ∧ exec i s = .next t) ∨
    ((∃ r, decode w = .error r) ∧ t = s.raiseIllegal) := by
  unfold issueWord at h
  split at h
  · next i hd => exact .inl ⟨i, hd, h⟩
  · next r hd => cases h; exact .inr ⟨⟨r, hd⟩, rfl⟩

/-- Everything a step can do when it answers a next state (R9). -/
theorem step_cases {s t : State} (h : step s = .next t) :
    (s.env.nextSlot = .host ∧ hostStep (s.setEnv s.env.dropSlot) = .next t) ∨
    (s.env.nextSlot = .engine ∧ t = engineStep (s.setEnv s.env.dropSlot)) ∨
    (∃ btn1 btn2, s.env.nextSlot = .sample btn1 btn2 ∧
      sampleEvent btn1 btn2 (s.setEnv s.env.dropSlot) = .next t) ∨
    (s.env.nextSlot = .tick ∧ t = tickEvent (s.setEnv s.env.dropSlot)) ∨
    (s.env.nextSlot = .reset ∧ t = resetEvent (s.setEnv s.env.dropSlot)) := by
  unfold step agentStep at h
  split at h
  · next hs => exact .inl ⟨hs, h⟩
  · next hs => cases h; exact .inr (.inl ⟨hs, rfl⟩)
  · next b1 b2 hs => exact .inr (.inr (.inl ⟨b1, b2, hs, h⟩))
  · next hs => cases h; exact .inr (.inr (.inr (.inl ⟨hs, rfl⟩)))
  · next hs => cases h; exact .inr (.inr (.inr (.inr ⟨hs, rfl⟩)))

end Sys2Proof.Machine
end

