-- ==== Sys2Proof/Laws/Run.lean ====
section
/-! SUPPORT. Unrolling a run by one step, and over two parts. -/

namespace Sys2Proof.Machine

theorem runSteps_zero (s : State) : runSteps 0 s = .next s := rfl

theorem runSteps_succ_of_next {s t : State} (h : step s = .next t) (n : Nat) :
    runSteps (n + 1) s = runSteps n t := by
  have hc : Sys2Proof.core.step s = .next t := h
  simp only [runSteps, Host.Core.run, hc]
  rfl

theorem runSlots_cons_of_next {a : Slot} {s t : State} (h : agentStep a s = .next t)
    (rest : List Slot) : runSlots (a :: rest) s = runSlots rest t := by
  simp only [runSlots, h]

theorem runSlots_append_of_next {l : List Slot} {s t : State} (h : runSlots l s = .next t)
    (rest : List Slot) : runSlots (l ++ rest) s = runSlots rest t := by
  induction l generalizing s with
  | nil => cases h; rfl
  | cons a l ih =>
    simp only [List.cons_append, runSlots] at h ⊢
    split at h
    · next u hu => exact ih h
    · cases h
    · cases h

/-- A step from a state whose schedule begins with a chosen slot is the step of that agent. -/
theorem step_of_slots {a : Slot} {rest : List Slot} {s : State} (h : s.env.slots = a :: rest) :
    step s = agentStep a (s.setEnv { s.env with slots := rest }) := by
  rw [step, Env.nextSlot_of_cons _ h, Env.dropSlot_of_cons _ h]

end Sys2Proof.Machine
end

