-- ==== Sys2Proof/Laws/Tick.lean ====
section
/-! SUPPORT. The arithmetic of TICK, at every width TICK_W (R190, R193, R195). -/

namespace Sys2Proof.Machine

/-- The default TICK_W has at least the 13 bits that R7 asks for. -/
theorem tickWMin_le_default : Config.tickWMin ≤ Config.tickW := by decide

/-- R190: plus one modulo 2^width. -/
theorem tickIncrement_toNat {width : Nat} (t : BitVec width) :
    (tickIncrement t).toNat = (t.toNat + 1) % 2 ^ width := by
  simp [tickIncrement, BitVec.toNat_add]

@[simp] theorem TickWord.increment_width (t : TickWord) : t.increment.width = t.width := rfl

/-- R190 for the register, at its own width. -/
theorem TickWord.increment_toNat (t : TickWord) :
    t.increment.bits.toNat = (t.bits.toNat + 1) % 2 ^ t.width := tickIncrement_toNat t.bits

/-- n increments add n modulo 2^width (R195). -/
theorem tickIncrement_iterate {width : Nat} (n : Nat) (t : BitVec width) :
    tickIncrement^[n] t = t + BitVec.ofNat width n := by
  induction n generalizing t with
  | zero => simp
  | succ n ih =>
    rw [Function.iterate_succ_apply, ih, tickIncrement, BitVec.add_assoc, BitVec.ofNat_add,
      BitVec.add_comm (BitVec.ofNat width n)]
    rfl

end Sys2Proof.Machine
end

