-- ==== Sys2Proof/Tests/Slice0.lean ====
section
/-! SUPPORT. Our own tests. Expected values are those of the vectors of spec/95_test_vectors.md, named
in the docstrings, or written out from the encodings of R91 and R94. Then one witness for the
hypotheses of every statement that has hypotheses, at boundary values. -/

namespace Sys2Proof.Tests

open Sys2Proof Sys2Proof.Machine

/-! ### Well-formed terms and the decoder -/

theorem test_wellFormed_refuses_rdbtn_outside :
    (Instr.rdbtn 0).wellFormed = false ∧ (Instr.rdbtn 3).wellFormed = false := by decide

theorem test_wellFormed_refuses_rdch_outside :
    (Instr.rdch 0).wellFormed = false ∧ (Instr.rdch 15).wellFormed = false := by decide

theorem test_wellFormed_accepts : (Instr.rdbtn 1).wellFormed = true ∧
    (Instr.rdch 2).wellFormed = true ∧ (Instr.wrdata 0xFF).wellFormed = true := by decide

/-- Display family, bit by bit from R91: OPC, SUB, IMM8. -/
theorem test_decode_display_words :
    decode 0b0001_0000_00000001 = .ok (.wrcmd 0b00000001) ∧
    decode 0b0001_0000_11111111 = .ok (.wrcmd 0b11111111) ∧
    decode 0b0010_0000_01000001 = .ok (.wrdata 0b01000001) ∧
    decode 0b0011_0000_00000000 = .ok (.rdstat 0) ∧
    decode 0b0011_0001_00000000 = .ok (.rdstat 1) ∧
    decode 0b0100_0000_00000000 = .ok .init := by decide

/-- Debounce family, bit by bit from R91. -/
theorem test_decode_debounce_words :
    decode 0b0101_0001_00000000 = .ok (.rdbtn 1) ∧ decode 0b0101_0010_00000000 = .ok (.rdbtn 2) ∧
    decode 0b0110_0001_00000000 = .ok (.rdch 1) ∧ decode 0b0110_0010_00000000 = .ok (.rdch 2) ∧
    decode 0b0111_0000_00000000 = .ok .smpdis ∧ decode 0b1000_0000_00000000 = .ok .smpen := by
  decide

/-- Tick family, bit by bit from R91. -/
theorem test_decode_tick_words :
    decode 0b1001_0000_00000000 = .ok .rdtick ∧ decode 0b1010_0000_00000000 = .ok .clrtick := by
  decide

/-- The same words from the encoder, by the exact words of R94. -/
theorem test_encode_words :
    [Instr.wrcmd 0x01, .wrdata 0x41, .rdstat 0, .rdstat 1, .init, .rdbtn 1, .rdbtn 2, .rdch 1,
      .rdch 2, .smpdis, .smpen, .rdtick, .clrtick].map encode
    = [0x1001, 0x2041, 0x3000, 0x3100, 0x4000, 0x5100, 0x5200, 0x6100, 0x6200, 0x7000, 0x8000,
      0x9000, 0xA000] := by decide

/-- V-EN14 to V-EN18. -/
theorem test_decode_reserved_words :
    decode 0x0000 = .error (.reservedOpcode 0x0) ∧ decode 0xFFFF = .error (.reservedOpcode 0xF) ∧
    decode 0xB000 = .error (.reservedOpcode 0xB) ∧ decode 0xE000 = .error (.reservedOpcode 0xE) ∧
    decode 0x1101 = .error (.subNotZero 1 1) ∧ decode 0x2F41 = .error (.subNotZero 2 15) := by
  decide

/-- V-EN19 to V-EN26. -/
theorem test_decode_illegal_operands :
    decode 0x3200 = .error (.noSuchAddress 2) ∧ decode 0x3001 = .error (.immNotZero 3 1) ∧
    decode 0x4001 = .error (.immNotZero 4 1) ∧ decode 0x4100 = .error (.subNotZero 4 1) ∧
    decode 0x5000 = .error (.noSuchChannel 0) ∧ decode 0x5300 = .error (.noSuchChannel 3) ∧
    decode 0x5101 = .error (.immNotZero 5 1) ∧ decode 0x6F00 = .error (.noSuchChannel 15) ∧
    decode 0x7001 = .error (.immNotZero 7 1) ∧ decode 0x8100 = .error (.subNotZero 8 1) ∧
    decode 0x9001 = .error (.immNotZero 9 1) ∧ decode 0xA0FF = .error (.immNotZero 10 0xFF) := by
  decide

/-- R96's list names the same words illegal, and leaves the legal ones alone. -/
theorem test_illegalNumber :
    [0x0000, 0x0FFF, 0xB000, 0xFFFF, 0x1100, 0x2100, 0x3200, 0x3001, 0x4001, 0x5000, 0x5300, 0x6101,
      0x7001, 0x8100, 0x9001, 0xA0FF].all illegalNumber = true ∧
    [0x1000, 0x10FF, 0x2000, 0x20FF, 0x3000, 0x3100, 0x4000, 0x5100, 0x5200, 0x6100, 0x6200, 0x7000,
      0x8000, 0x9000, 0xA000].any illegalNumber = false := by decide

/-- The host's view of a row: a 16-bit word, and no word longer than that. -/
theorem test_decodeTableWord :
    decodeTableWord 16 0x3100 = some (.rdstat 1) ∧ decodeTableWord 16 0x5000 = none ∧
    decodeTableWord 24 0x3100 = none := by decide

/-- R104, R131: the expansions of `WRSTR "Hi"`, `WRSTR ""` and `SNAPSHOT`. -/
theorem test_pseudo_operations :
    (wrstr [0x48, 0x69]).map encode = [0x2048, 0x2069] ∧ wrstr [] = [] ∧
    snapshot.map encode = [0x7000, 0x5100, 0x5200, 0x8000] := by decide

/-- R103: one line of a host program. -/
theorem test_assemblerText :
    (Instr.wrdata 0x41).assemblerText = "WRDATA 65" ∧ (Instr.rdbtn 2).assemblerText = "RDBTN 2" ∧
    Instr.init.assemblerText = "INIT" := by decide

/-! ### One step on a small state -/

/-- The reset state with DSEQ, the next slots, the next words and the next answers chosen. -/
def placed (d : Dseq) (slots : List Slot) (words : List OpWord) (answers : List Byte) : State :=
  { State.reset with dseq := d, env := ⟨slots, words, answers, 0⟩ }

/-- A word of the default TICK_W, 32 bits. -/
def tick32 (n : BitVec 32) : TickWord := ⟨32, n⟩

/-- V-RS1's and V-DB10's kind of start: two channels, TICK and SMPEN chosen. -/
def withRegisters (c1 c2 : Channel) (enabled : Bool) (t : BitVec 32) (s : State) : State :=
  { s with ch1 := c1, ch2 := c2, smpen := enabled, tick := tick32 t }

/-- What a step leaves, where it answers a next state. -/
def after (s : State) : Option State :=
  match step s with
  | .next t => some t
  | .fault _ => none
  | .refused _ => none

/-- What n steps leave, where each answers a next state. -/
def afterSteps (n : Nat) (s : State) : Option State :=
  match runSteps n s with
  | .next t => some t
  | .fault _ => none
  | .refused _ => none

/-- R121: WRCMD issued. -/
theorem test_wrcmd_issue :
    (after (placed .idle [.host] [0x1001] [])).map
      (fun t => (t.darg, t.daddr, t.dseq, t.busLog.length)) = some (0x01, 0, .poll, 0) := by decide

/-- R121: WRDATA issued. -/
theorem test_wrdata_issue :
    (after (placed .idle [.host] [0x2041] [])).map
      (fun t => (t.darg, t.daddr, t.dseq, t.responses.length)) = some (0x41, 1, .poll, 0) := by
  decide

/-- R121: RDSTAT 1 issued. -/
theorem test_rdstat_issue :
    (after (placed .idle [.host] [0x3100] [])).map (fun t => (t.daddr, t.dseq))
      = some (1, .read) := by decide

/-- R121: INIT issued. -/
theorem test_init_issue :
    (after (placed .idle [.host] [0x4000] [])).map (fun t => t.dseq) = some (.init 0) := by decide

/-- V-DP1. -/
theorem test_wrcmd_polls_until_clear :
    (afterSteps 5 (placed .idle (operationSlots 4) [0x1001] [0x80, 0x80, 0x00])).map
      (fun t => (t.busLog, t.responses))
    = some ([.rd 0 0x80, .rd 0 0x80, .rd 0 0x00, .wr 0 0x01], [⟨.ok, tick32 0⟩]) := by decide

/-- V-DP3: only bit 7 is tested. -/
theorem test_wrdata_tests_bit_seven_only :
    (afterSteps 4 (placed .idle (operationSlots 3) [0x2041] [0xFF, 0x7F])).map (fun t => t.busLog)
    = some [.rd 0 0xFF, .rd 0 0x7F, .wr 1 0x41] := by decide

/-- V-DP6. -/
theorem test_rdstat_returns_the_byte :
    (afterSteps 2 (placed .idle (operationSlots 1) [0x3000] [0x85])).map
      (fun t => (t.busLog, t.responses, t.dseq))
    = some ([.rd 0 0x85], [⟨.ok, tick32 0x00000085⟩], .idle) := by decide

/-- V-DP5, with its literal bytes and microseconds: the default command bytes. -/
theorem test_init_trace :
    initTrace State.reset.commands = [.dly 30000, .wr 0 0x38, .dly 48, .wr 0 0x0C, .dly 48, .wr 0 0x01, .dly 1800,
      .wr 0 0x06, .dly 1800] := by decide

/-- V-DP5: the last micro-step of INIT. -/
theorem test_init_last :
    (after (placed (.init 8) [.engine] [] [])).map (fun t => (t.busLog, t.responses, t.dseq))
    = some ([.dly 1800], [⟨.ok, tick32 0⟩], .idle) := by decide

/-- R101: INIT writes the bytes that its machine is given, here one whose CMD_FUNCTION_SET is 0x30. -/
theorem test_init_other_bytes :
    (after { placed (.init 1) [.engine] [] [] with commands := { functionSet := 0x30 } }).map
      (fun t => (t.busLog, t.dseq)) = some ([.wr 0 0x30], .init 2) := by decide

/-- V-DP13: RESET abandons the write. -/
theorem test_reset_abandons_the_write :
    (afterSteps 3 (placed .idle [.host, .engine, .reset] [0x1001] [0x80])).map
      (fun t => (t.busLog, t.responses, t.dseq)) = some ([.rd 0 0x80], [], .idle) := by decide

/-- V-EN27. -/
theorem test_illegal_word_changes_nothing :
    (after (withRegisters Channel.reset Channel.reset false 7 (placed .idle [.host] [0xFFFF] []))).map
      (fun t => (t.smpen, t.tick, t.busLog, t.responses)) = some (false, tick32 7, [], [⟨.illegal, tick32 0⟩]) := by
  decide

/-- V-DB7: the tenth agreement commits. -/
theorem test_sample_commits :
    (⟨true, true, 9, false⟩ : Channel).dbStep true = ⟨true, true, 0, true⟩ := by decide

/-- V-DB8: a disagreement at CNT = 9 does not. -/
theorem test_sample_disagrees :
    (⟨true, true, 9, false⟩ : Channel).dbStep false = ⟨false, false, 0, false⟩ := by decide

/-- V-DB14: the two channels, each from its own pin. -/
theorem test_sample_both_channels :
    (after (placed .idle [.sample true false] [] [])).map (fun t => (t.ch1, t.ch2))
    = some (⟨true, true, 0, false⟩, ⟨false, false, 1, false⟩) := by decide

/-- V-DB10: a masked sample is dropped. -/
theorem test_sample_masked :
    (after (withRegisters ⟨true, true, 9, false⟩ ⟨true, true, 9, false⟩ false 0
      (placed .idle [.sample true true] [] []))).map (fun t => (t.ch1, t.ch2))
    = some (⟨true, true, 9, false⟩, ⟨true, true, 9, false⟩) := by decide

/-- R162: channel 2 = (1,1,0,1), RDBTN 2. -/
theorem test_rdbtn_pressed :
    (after (withRegisters Channel.reset ⟨true, true, 0, true⟩ true 0
      (placed .idle [.host] [0x5200] []))).map (fun t => t.responses) = some [⟨.ok, tick32 1⟩] := by decide

/-- V-DB12. -/
theorem test_rdch_pack :
    (after (withRegisters Channel.reset ⟨true, true, 7, false⟩ true 0
      (placed .idle [.host] [0x6200] []))).map (fun t => t.responses) = some [⟨.ok, tick32 0x76⟩] := by
  decide

/-- V-DB13. -/
theorem test_rdch_stable_bit :
    (after (withRegisters ⟨true, true, 0, true⟩ Channel.reset true 0
      (placed .idle [.host] [0x6100] []))).map (fun t => t.responses) = some [⟨.ok, tick32 0x07⟩] := by
  decide

/-- R164. -/
theorem test_smpdis : (after (placed .idle [.host] [0x7000] [])).map (fun t => t.smpen)
    = some false := by decide

/-- R165: from SMPEN = 0. -/
theorem test_smpen :
    (after (withRegisters Channel.reset Channel.reset false 0 (placed .idle [.host] [0x8000] []))).map
      (fun t => t.smpen) = some true := by decide

/-- V-TK6, its first read. -/
theorem test_rdtick :
    (after (withRegisters Channel.reset Channel.reset true 0xFFFFFFFE
      (placed .idle [.host] [0x9000] []))).map (fun t => (t.responses, t.tick))
    = some ([⟨.ok, tick32 0xFFFFFFFE⟩], tick32 0xFFFFFFFE) := by decide

/-- V-TK2. -/
theorem test_clrtick :
    (after (withRegisters Channel.reset Channel.reset true 123
      (placed .idle [.host] [0xA000] []))).map (fun t => (t.tick, t.responses))
    = some (tick32 0, [⟨.ok, tick32 0⟩]) := by decide

/-- A machine whose TICK_W is 13, the least. -/
def narrow (n : BitVec 13) (s : State) : State := { s with tick := ⟨13, n⟩ }

/-- V-TK5 and V-TK10: the wrap, on machines of the default width and of the smallest one. -/
theorem test_tick_wraps :
    (after (withRegisters Channel.reset Channel.reset true 0xFFFFFFFF
      (placed .idle [.tick] [] []))).map (fun t => t.tick) = some (tick32 0) ∧
    (after (narrow 8191 (placed .idle [.tick] [] []))).map (fun t => t.tick) = some ⟨13, 0⟩ := by
  decide

/-- On a machine of TICK_W = 13 the responses have 13 bits, and RESET keeps the width (R95, R193, R250). -/
theorem test_narrow_responses :
    (after (narrow 4000 (placed .idle [.host] [0x9000] []))).map (fun t => t.responses)
      = some [⟨.ok, 13, 4000⟩] ∧
    (after (narrow 4000 (placed .read [.engine] [] [0x85]))).map (fun t => t.responses)
      = some [⟨.ok, 13, 0x85⟩] ∧
    (after (narrow 4000 (placed .idle [.reset] [] []))).map (fun t => t.tick) = some ⟨13, 0⟩ := by
  decide

/-- V-TK9: ticks come while a display operation is stalled and sampling is masked. -/
theorem test_tick_while_stalled :
    (after (withRegisters Channel.reset Channel.reset false 10 (placed .poll [.tick] [] []))).map
      (fun t => (t.tick, t.dseq)) = some (tick32 11, .poll) := by decide

/-- V-RS1. -/
theorem test_reset_event :
    (after (withRegisters ⟨true, true, 4, true⟩ ⟨false, false, 9, false⟩ false 77
      (placed .poll [.reset] [] []))).map (fun t => (t.ch1, t.ch2, t.smpen, t.tick, t.dseq))
    = some (⟨false, false, 0, false⟩, ⟨false, false, 0, false⟩, true, tick32 0, .idle) := by decide

/-- V-DP8 and V-DP9: the reference device accepts those answers, and ends at those addresses. -/
theorem test_reference_device :
    RefDevice.replay ⟨80, 0⟩ {} [.rd 0 0x00, .wr 1 0x48, .rd 0 0x01, .wr 1 0x69, .rd 0 0x02]
      = some ⟨80, 2⟩ ∧
    RefDevice.replay ⟨128, 127⟩ {} [.rd 0 0x7F, .wr 1 0x78, .rd 0 0x00] = some ⟨128, 0⟩ ∧
    RefDevice.replay ⟨128, 127⟩ {} [.rd 0 0x7F, .wr 1 0x78, .rd 0 0x01] = none := by decide

/-- R219: the host step is first in its cycle; RESET is alone in its own. -/
theorem test_cycle_order :
    (Cycle.mk false true (some (true, false)) true).slots false
      = [.host, .sample true false, .tick] ∧
    (Cycle.mk true true (some (true, false)) true).slots false = [.reset] := by decide

/-- R12 assumes SAMPLE and TICK of executions without RESET only: a RESET held for ever is not excluded. -/
theorem test_held_reset_is_not_excluded : periodicEventsRecur fun _ => .reset :=
  fun h => absurd rfl (h 0)

/-- The machine's own safety term (R212). -/
theorem test_noIllegalResponse :
    (after (placed .idle [.host] [0x0000] [])).map State.noIllegalResponse = some false ∧
    (after (placed .idle [.host] [0x9000] [])).map State.noIllegalResponse = some true := by decide

/-- A placed word runs as the first step after reset. -/
theorem test_withFetchWord :
    step (State.reset.withFetchWord 16 0x7000)
      = exec .smpdis { State.reset.withFetchWord 16 0x7000 with env := Env.unchosen } := rfl

/-! ### Witnesses: a state and operands for the hypotheses of each statement -/

theorem witness_DecodeOfEncodeIsTheOperation :
    (Instr.rdbtn 1).wellFormed = true ∧ (Instr.rdch 2).wellFormed = true := by decide

theorem witness_EncodeOfDecodeIsTheWord : decode 0x10FF = .ok (.wrcmd 0xFF) := by decide

theorem witness_WordSelectsTheOperationOfItsRow :
    decode 0x3100 = .ok (.rdstat 1) ∧
    (0x5200 : OpWord) &&& (Instr.rdbtn 1).maskBits = (Instr.rdbtn 1).matchBits ∧
    legalChannel (OpWord.sub 0x5200) = true := by decide

theorem witness_IllegalWordIsAnsweredAndChangesNothing :
    (decode 0xB000).toOption = none ∧
    [0x0FFF, 0x1100, 0x30FF, 0x3E00, 0x5300, 0xB000].all (fun w =>
      let s := placed .idle [.host] [BitVec.ofNat 16 w] []
      decide (s.env.nextSlot = .host) && decide (s.dseq = .idle)
        && illegalNumber s.env.dropSlot.nextWord.toNat) = true := by decide

theorem witness_StepRunsTheDecodedOperation :
    let s := placed .idle [.host] [0x4000] []
    s.env.nextSlot = .host ∧ s.dseq = .idle ∧ decode s.env.dropSlot.nextWord = .ok .init := by decide

theorem witness_RunFollowsTheChosenSchedule :
    (placed .idle [.tick, .sample true false, .reset] [] []).env.slots
      = [.tick, .sample true false] ++ [.reset] := by decide

/-- A state at the edge of the invariant, CNT = 9. -/
def atNine (s : State) : State :=
  { s with ch1 := ⟨true, true, 9, false⟩, ch2 := ⟨false, false, 9, true⟩ }

theorem witness_invariant : (atNine State.reset).Inv := by
  refine ⟨⟨?_, rfl⟩, ⟨?_, rfl⟩⟩ <;> decide

theorem witness_EveryStepKeepsTheChannelInvariant :
    (atNine (placed .idle [.sample true true] [] [])).Inv ∧
    (after (atNine (placed .idle [.sample true true] [] []))).isSome = true := by
  refine ⟨⟨⟨?_, rfl⟩, ⟨?_, rfl⟩⟩, ?_⟩ <;> decide

theorem witness_DisplayOperationIsIssued :
    (placed .idle [] [] []).dseq = .idle ∧
    (placed (.init 8) [.host] [] []).env.nextSlot = .host ∧
    (placed (.init 8) [.host] [] []).dseq ≠ .idle := by decide

theorem witness_micro_steps :
    [Dseq.poll, .write, .read, .init 0, .init 7, .init 8].all (fun d =>
      decide ((placed d [.engine] [] [0x80]).env.nextSlot = .engine)
        && decide ((placed d [.engine] [] [0x80]).dseq = d)) = true := by decide

theorem witness_WriteOperationPollsThenWritesOnce :
    let s := placed .idle (operationSlots 3 ++ [.tick]) [0x1038, 0x9000] [0x80, 0x7F, 0x00]
    let u := placed .idle (operationSlots 2) [0x2000] [0x00]
    (s.dseq = .idle ∧ (∀ b ∈ ([0x80] : List Byte), b.getLsbD 7 = true) ∧
      (0x7F : Byte).getLsbD 7 = false ∧ s.env.slots = operationSlots (1 + 2) ++ [.tick] ∧
      s.env.answers = [0x80] ++ 0x7F :: [0x00] ∧ s.env.words = encode (.wrcmd 0x38) :: [0x9000]) ∧
    (u.dseq = .idle ∧ (0x00 : Byte).getLsbD 7 = false ∧ u.env.slots = operationSlots (0 + 2) ++ [] ∧
      u.env.answers = [] ++ 0x00 :: [] ∧ u.env.words = encode (.wrdata 0x00) :: []) := by decide

theorem witness_StatusReadIsOneBusRead :
    let s := placed .idle (operationSlots 1 ++ []) [0x3100] [0x48]
    s.dseq = .idle ∧ s.env.slots = operationSlots 1 ++ [] ∧
    s.env.words = encode (.rdstat 1) :: [] ∧ s.env.answers = 0x48 :: [] := by decide

theorem witness_legalTickW : State.reset.legalTickW ∧ (narrow 0 State.reset).legalTickW := by
  unfold State.legalTickW
  decide

theorem witness_TickWidthIsAParameter :
    (after (narrow 8191 (placed .idle [.host] [0xA000] []))).map (fun t => (t.tickW, t.responses))
      = some (13, [⟨.ok, 13, 0⟩]) := by decide

theorem witness_InitEmitsItsNineEntries :
    let slots : List Slot := [.engine, .tick, .engine, .sample true true, .engine, .engine, .host,
      .engine, .engine, .engine, .engine]
    let s := placed .idle (.host :: (slots ++ .engine :: [.tick])) [0x4000] []
    s.Inv ∧ s.dseq = .idle ∧ s.env.words = encode .init :: [] ∧
    s.env.slots = .host :: (slots ++ .engine :: [.tick]) ∧
    slots.count .engine = 8 ∧ .reset ∉ slots := by
  refine ⟨⟨⟨?_, rfl⟩, ⟨?_, rfl⟩⟩, ?_⟩ <;> decide

theorem witness_BusyDeviceStallsTheHost :
    let slots : List Slot := [.engine, .host, .tick, .engine, .sample true false]
    let s := placed .poll (slots ++ [.engine]) [0x9000] [0x80, 0xFF]
    s.Inv ∧ s.dseq = .poll ∧ s.env.slots = slots ++ [.engine] ∧ .reset ∉ slots ∧
    slots.count .engine ≤ s.env.answers.length ∧
    (∀ b ∈ s.env.answers.take (slots.count .engine), b.getLsbD 7 = true) := by
  refine ⟨⟨⟨?_, rfl⟩, ⟨?_, rfl⟩⟩, ?_⟩ <;> decide

/-- One character on a device whose span fills the seven bits, at its last address: V-DP9. -/
theorem witness_StringThenStatusGivesTheCursor :
    let s := placed .idle (operationSlots 2 ++ operationSlots 1) [0x2078, 0x3000] [0x7F, 0x00]
    s.dseq = .idle ∧ ([0x7F] : List Byte).length = ([0x78] : List Byte).length ∧
    (∀ p ∈ ([0x7F] : List Byte), p.getLsbD 7 = false) ∧
    s.env.slots = ([0x78] : List Byte).flatMap (fun _ => operationSlots 2)
      ++ (operationSlots 1 ++ []) ∧
    s.env.words = (wrstr [0x78] ++ [Instr.rdstat 0]).map encode ++ [] ∧
    s.env.answers = [0x7F] ++ 0x00 :: [] ∧
    0 < (RefDevice.mk 128 127).span ∧ (RefDevice.mk 128 127).span ≤ 128 ∧
    (RefDevice.mk 128 127).ac < (RefDevice.mk 128 127).span ∧
    (RefDevice.mk 128 127).replay s.commands
      ((List.zipWith (fun p c => [BusEvent.rd 0 p, .wr 1 c]) [0x7F] [0x78]).flatten ++ [.rd 0 0x00])
      = some ⟨128, 0⟩ := by decide

/-- The four premises of the statement, each with a step that meets it. -/
theorem witness_EngineTouchesOnlyItsOwnState :
    (after (placed .write [.engine] [] [])).map (fun t => decide (t.busLog ≠ [])) = some true ∧
    (after (placed .idle [.engine] [] [])).isSome = true ∧
    (after (placed .idle [.host] [0x1001] [])).map (fun t => decide (t.darg ≠ 0)) = some true ∧
    (after (placed .idle [.host] [0x3100] [])).map (fun t => decide (t.daddr ≠ 0)) = some true := by
  decide

theorem witness_SequencerTransfers :
    [(Dseq.poll, Dseq.write), (.write, .idle), (.read, .idle), (.init 0, .init 1), (.init 7, .init 8),
      (.init 8, .idle)].all (fun p =>
        (after (placed p.1 [.engine] [] [0x00])).map (fun t => t.dseq) == some p.2) = true ∧
    (after (placed .idle [.host] [0x4000] [])).map (fun t => t.dseq) = some (.init 0) ∧
    (after (placed .read [.reset] [] [])).map (fun t => t.dseq) = some .idle := by decide

theorem witness_EngineAndEventsDoNotInterfere :
    let slots : List Slot := [.engine, .tick, .sample true true, .engine]
    (placed .poll [] [] [0x80, 0x00]).Inv ∧ .host ∉ slots ∧ .reset ∉ slots := by
  refine ⟨⟨⟨?_, rfl⟩, ⟨?_, rfl⟩⟩, ?_⟩ <;> decide

/-- The default command bytes, and the premises of the last three clauses. -/
theorem witness_ReferenceDeviceFollowsItsTable :
    let c : CommandBytes := {}
    c.functionSet ≠ c.clear ∧ c.displayCtrl ≠ c.clear ∧ c.entryMode ≠ c.clear := by decide

theorem witness_CommandBytesAreParameters :
    (after { placed .idle [.reset] [] [] with commands := { clear := 0x02 } }).map
      (fun t => t.commands.clear) = some 0x02 := by decide

/-- ENGINE, TICK and a masked SAMPLE in turn, for ever. -/
def turns (n : Nat) : Slot :=
  if n % 3 = 0 then .engine else if n % 3 = 1 then .tick else .sample true false

/-- The execution of those turns from an operation in flight. -/
def underTurns (d : Dseq) : Nat → State
  | 0 => { placed d [] [] [] with smpen := false }
  | n + 1 =>
    if n % 3 = 0 then engineStep (underTurns d n)
    else if n % 3 = 1 then tickEvent (underTurns d n)
    else underTurns d n

theorem underTurns_masked (d : Dseq) (n : Nat) : (underTurns d n).smpen = false := by
  induction n with
  | zero => rfl
  | succ n ih =>
    simp only [underTurns]
    split
    · rcases engineStep_cases (underTurns d n) with
        ⟨_, h⟩ | ⟨_, h⟩ | ⟨_, h⟩ | ⟨_, h⟩ | ⟨_, _, _, h⟩ | ⟨_, h⟩ <;>
        rw [h] <;> simpa [pollStep, writeStep, readStep] using ih
    · split <;> exact ih

theorem turns_withoutReset : withoutReset turns := by
  intro n
  unfold turns
  split
  · simp
  · split <;> simp

theorem underTurns_fair (d : Dseq) : fairExecution turns (underTurns d) := by
  refine ⟨fun n => ?_, fun _ => ⟨fun n => ?_, fun n => ?_⟩, fun n _ => ?_⟩
  · have hm := underTurns_masked d n
    simp only [turns, underTurns]
    split
    · rfl
    · split
      · rfl
      · simp [agentStep, sampleEvent, hm]
  · exact ⟨3 * n + 2, by omega, true, false, by simp [turns]⟩
  · exact ⟨3 * n + 1, by omega, by simp [turns]⟩
  · exact ⟨3 * n, by omega, .inl (by simp [turns])⟩

theorem witness_StatusReadAndInitComplete :
    (fairExecution turns (underTurns .read) ∧ withoutReset turns ∧
      (underTurns .read 0).dseq = .read) ∧
    (fairExecution turns (underTurns (.init 0)) ∧ withoutReset turns ∧
      (underTurns (.init 0) 0).dseq = .init 0) :=
  ⟨⟨underTurns_fair _, turns_withoutReset, rfl⟩, underTurns_fair _, turns_withoutReset, rfl⟩

/-- An agreement at 9 gives 10, an agreement at 8 gives 9, a disagreement at 9 gives 0. -/
theorem witness_DebounceStep :
    (9 : Count).toNat ≤ 9 ∧ (10 = if true = true then (9 : Count).toNat + 1 else 0) ∧
    (9 = if true = true then (8 : Count).toNat + 1 else 0) ∧
    (0 = if true = false then (9 : Count).toNat + 1 else 0) := by decide

theorem witness_SampleEventStepsBothChannels :
    let s := atNine (placed .idle [.sample true false] [] [])
    s.env.nextSlot = .sample true false ∧ s.smpen = true ∧ s.ch1.cnt.toNat ≤ 9 ∧
    s.ch2.cnt.toNat ≤ 9 ∧ { s with smpen := false }.env.nextSlot = .sample true false ∧
    { s with smpen := false }.smpen = false := by decide

theorem witness_SampleOutsideTheInvariantIsRefused :
    let s := withRegisters ⟨true, true, 10, false⟩ ⟨false, false, 9, false⟩ true 0
      (placed .idle [.sample true false] [] [])
    s.env.nextSlot = .sample true false ∧ s.smpen = true ∧ 10 ≤ s.ch1.cnt.toNat ∧
    10 ≤ (withRegisters Channel.reset ⟨true, true, 15, false⟩ true 0 s).ch2.cnt.toNat := by decide

theorem witness_ChannelsFollowTheirOwnPins :
    (atNine State.reset).Inv ∧ (atNine State.reset).smpen = true := by
  refine ⟨⟨⟨?_, rfl⟩, ⟨?_, rfl⟩⟩, ?_⟩ <;> decide

theorem witness_ElevenIdenticalSamplesCommit :
    (⟨false, false, 9, false⟩ : Channel).cnt.toNat ≤ 9 ∧
    (⟨false, false, 9, false⟩ : Channel).prev ≠ true := by decide

theorem witness_SteadyInputCommitsEveryTenthStep :
    (⟨true, true, 9, false⟩ : Channel).Inv ∧ (⟨true, true, 9, false⟩ : Channel).cnt.toNat ≤ 9 := by
  refine ⟨⟨?_, rfl⟩, ?_⟩ <;> decide

theorem witness_DisagreementResetsTheCount :
    false ≠ (⟨true, true, 9, false⟩ : Channel).prev ∧
    (withRegisters Channel.reset Channel.reset false 0
      (placed .idle [.sample true true] [] [])).env.nextSlot = .sample true true := by decide

/-- The first commit after reset, at sample 10 of a released button; and of a pressed one, at 11. -/
theorem witness_StableFollowsALevelThatHolds :
    (Channel.reset.samples (List.replicate 9 false)).commits false = true ∧
    (Channel.reset.samples (List.replicate 10 true)).commits true = true ∧
    (⟨true, true, 9, false⟩ : Channel).Inv := by
  refine ⟨?_, ?_, ?_, rfl⟩ <;> decide

theorem witness_single_step_operations : (placed .idle [] [] []).dseq = .idle := by decide

theorem witness_ChannelReadRespondsThePack :
    ((1 : Nibble) = 1 ∧ State.reset.ch1 = State.reset.ch1) ∧
    ((2 : Nibble) = 2 ∧ State.reset.ch2 = State.reset.ch2) := by decide

theorem witness_ChannelOutsideOneAndTwoIsIllegal :
    [0, 3, 15].all (fun c : Nibble => !legalChannel c) = true := by decide

/-- P4, with TICK events and turns of the engine beside the masked samples. -/
theorem witness_SnapshotIsConsistent :
    let gap1 : List Slot := [.sample true true]
    let gap2 : List Slot := [.sample true true, .tick]
    let gap3 : List Slot := [.engine]
    let s := placed .idle (.host :: gap1 ++ .host :: gap2 ++ .host :: gap3 ++ .host :: [.tick])
      [0x7000, 0x5100, 0x5200, 0x8000] []
    s.dseq = .idle ∧ s.env.words = snapshot.map encode ++ [] ∧
    s.env.slots = .host :: gap1 ++ .host :: gap2 ++ .host :: gap3 ++ .host :: [.tick] ∧
    .host ∉ gap1 ++ gap2 ++ gap3 ∧ .reset ∉ gap1 ++ gap2 ++ gap3 := by decide

theorem witness_TickEventIncrements :
    (withRegisters Channel.reset Channel.reset true 0xFFFFFFFF
      (placed .poll [.tick] [] [])).env.nextSlot = .tick := by decide

/-- Across a wrap, with a read of the counter between the events; and from TICK = 0. -/
theorem witness_TickCountsTheEvents :
    let slots : List Slot := [.tick, .host, .tick]
    let s := withRegisters Channel.reset Channel.reset true 0xFFFFFFFF
      (placed .idle (slots ++ [.tick]) [0x9000] [])
    s.Inv ∧ s.env.slots = slots ++ [.tick] ∧ .reset ∉ slots ∧
    slots.count .host ≤ s.env.words.length ∧ (∀ w ∈ s.env.words, decode w ≠ .ok .clrtick) ∧
    State.reset.tick.bits = 0 := by
  refine ⟨⟨⟨by decide, rfl⟩, ⟨by decide, rfl⟩⟩, rfl, by decide, by decide, ?_, rfl⟩
  exact List.forall_mem_singleton.mpr (by decide)

theorem witness_ClearNearATick :
    let s := fun slots => placed .idle slots [0xA000] []
    (s []).dseq = .idle ∧ (s []).env.words = encode .clrtick :: [] ∧
    (s [.host, .tick]).env.slots = [.host, .tick] ++ [] ∧
    (s [.tick, .host]).env.slots = [.tick, .host] ++ [] ∧
    (s (Cycle.slots ⟨false, true, none, true⟩ false)).env.slots
      = Cycle.slots ⟨false, true, none, true⟩ (s []).inFlight ++ [] := by decide

theorem witness_ResetEventRestoresTheRegisters :
    (placed .write [.reset] [] []).env.nextSlot = .reset := by decide

/-- Each premise of the statement, with a step that meets it: a sample, the two commits, the tick and
the clear, and the mask. -/
theorem witness_SharedFieldsHaveTheirWriters :
    (after (placed .idle [.sample true false] [] [])).map
      (fun t => decide (t.ch1 ≠ State.reset.ch1 ∧ t.ch2 ≠ State.reset.ch2)) = some true ∧
    (after (atNine (placed .idle [.sample true false] [] []))).map
      (fun t => (t.ch1.stable, t.ch2.stable)) = some (true, false) ∧
    (after (placed .idle [.tick] [] [])).map (fun t => t.tick) = some (tick32 1) ∧
    (after (withRegisters Channel.reset Channel.reset true 5
      (placed .idle [.host] [0xA000] []))).map (fun t => t.tick) = some (tick32 0) ∧
    (after (placed .idle [.host] [0x7000] [])).map (fun t => t.smpen) = some false := by decide

/-- An issue that responds at once, an issue that owes its response, a refused turn, and a RESET. -/
theorem witness_EveryOperationGetsOneResponse :
    [placed .idle [.host] [0x9000] [], placed .idle [.host] [0x1001] [],
      placed .poll [.host] [0x9000] [], placed .write [.engine] [] [],
      placed .write [.reset] [] []].map (fun s => (after s).map State.issuedCount)
    = [some 1, some 1, some 1, some 1, some 0] := by decide

theorem witness_HistoriesOnlyGrow :
    (after (placed .write [.engine] [] [])).map (fun t => (t.busLog.length, t.responses.length))
    = some (1, 1) := by decide

theorem witness_EventsCommuteAndResetWins :
    (Cycle.mk true true none true).reset = true ∧ (Cycle.mk false true none true).reset = false ∧
    (Cycle.mk false true none true).main = true := by decide

end Sys2Proof.Tests
end

section
/-! PROOF. The HOST's turn, branch by branch, and the step at that turn (R9, R10). -/

namespace Sys2Proof.Machine

theorem step_of_host {s : State} (h : s.env.nextSlot = .host) :
    step s = hostStep (s.setEnv s.env.dropSlot) := by
  rw [step, h, agentStep]

theorem hostStep_of_idle {s : State} (h : s.dseq = .idle) :
    hostStep s = issueWord s.env.nextWord (s.setEnv s.env.dropWord) := by
  simp [hostStep, (s.inFlight_eq_false).2 h]

theorem hostStep_of_inFlight {s : State} (h : s.dseq ≠ .idle) : hostStep s = .next s := by
  simp [hostStep, (s.inFlight_eq_true).2 h]

theorem issueWord_of_ok {w : OpWord} {i : Instr} (h : decode w = .ok i) (s : State) :
    issueWord w s = exec i s := by
  rw [issueWord, h]

theorem issueWord_of_error {w : OpWord} {r : Reject} (h : decode w = .error r) (s : State) :
    issueWord w s = .next s.raiseIllegal := by
  rw [issueWord, h]

/-- Settles O6: the turn is the HOST's, the port is free, and the word is legal. -/
theorem stepRunsTheDecodedOperation : Obligations.StepRunsTheDecodedOperation := by
  intro s i hslot hidle hdecode
  rw [step_of_host hslot, hostStep_of_idle (s := s.setEnv s.env.dropSlot) hidle]
  exact issueWord_of_ok hdecode _

end Sys2Proof.Machine
end

section
/-! PROOF. No agent looks at the slots to come: taking its step and replacing the rest of the schedule
commute. A run of n steps is therefore the run over its n chosen slots (R9, R11). -/

namespace Sys2Proof.Machine

/-- The state with another schedule to come. -/
def State.withSlots (s : State) (l : List Slot) : State := s.setEnv { s.env with slots := l }

/-- `f` after an outcome that is a next state. -/
def onNext (f : State → State) : Host.Outcome State Fault Refusal → Host.Outcome State Fault Refusal
  | .next s => .next (f s)
  | .fault r => .fault r
  | .refused r => .refused r

variable (s : State) (l : List Slot)

@[simp] theorem State.withSlots_self : s.withSlots s.env.slots = s := rfl

@[simp] theorem State.channelAt_withSlots (c : Nibble) :
    (s.withSlots l).channelAt c = s.channelAt c := rfl

theorem State.memRead_withSlots (a : BusAddr) :
    (s.withSlots l).memRead a = (s.memRead a).withSlots l :=
  congrArg (fun e => (s.setEnv e).appendLog (.rd a s.readValue)) (Env.dropAnswer_with_slots s.env l)

theorem exec_withSlots (i : Instr) : exec i (s.withSlots l) = onNext (·.withSlots l) (exec i s) := by
  cases i with
  | rdbtn c =>
    simp only [exec, execRdbtn, State.channelAt_withSlots]
    cases s.channelAt c <;> rfl
  | rdch c =>
    simp only [exec, execRdch, State.channelAt_withSlots]
    cases s.channelAt c <;> rfl
  | _ => rfl

theorem issueWord_withSlots (w : OpWord) :
    issueWord w (s.withSlots l) = onNext (·.withSlots l) (issueWord w s) := by
  cases h : decode w with
  | ok i => rw [issueWord_of_ok h, issueWord_of_ok h, exec_withSlots]
  | error r => rw [issueWord_of_error h, issueWord_of_error h]; rfl

theorem hostStep_withSlots : hostStep (s.withSlots l) = onNext (·.withSlots l) (hostStep s) := by
  by_cases h : s.dseq = .idle
  · have henv : (s.withSlots l).setEnv (s.withSlots l).env.dropWord
        = (s.setEnv s.env.dropWord).withSlots l :=
      congrArg s.setEnv (Env.dropWord_with_slots s.env l)
    rw [hostStep_of_idle h, hostStep_of_idle (s := s.withSlots l) h, henv]
    exact issueWord_withSlots _ _ _
  · rw [hostStep_of_inFlight h, hostStep_of_inFlight (s := s.withSlots l) h]
    rfl

theorem initStep_withSlots (k : Fin 9) : initStep k (s.withSlots l) = (initStep k s).withSlots l := by
  unfold initStep
  simp only [State.perform_eq]
  split <;> rfl

theorem engineStep_withSlots : engineStep (s.withSlots l) = (engineStep s).withSlots l := by
  rcases h : s.dseq with _ | _ | _ | _ | k
  · rw [engineStep_of_idle h, engineStep_of_idle (s := s.withSlots l) h]
  · rw [engineStep_of_poll h, engineStep_of_poll (s := s.withSlots l) h, pollStep,
      State.memRead_withSlots]
    rfl
  · rw [engineStep_of_write h, engineStep_of_write (s := s.withSlots l) h]
    rfl
  · rw [engineStep_of_read h, engineStep_of_read (s := s.withSlots l) h, readStep,
      State.memRead_withSlots]
    rfl
  · rw [engineStep_of_init h, engineStep_of_init (s := s.withSlots l) h, initStep_withSlots]

theorem sampleEvent_withSlots (btn1 btn2 : Bool) :
    sampleEvent btn1 btn2 (s.withSlots l) = onNext (·.withSlots l) (sampleEvent btn1 btn2 s) := by
  unfold sampleEvent
  rw [apply_ite (onNext _), apply_ite (onNext _)]
  rfl

theorem agentStep_withSlots (a : Slot) :
    agentStep a (s.withSlots l) = onNext (·.withSlots l) (agentStep a s) := by
  cases a with
  | host => exact hostStep_withSlots s l
  | engine => exact congrArg Host.Outcome.next (engineStep_withSlots s l)
  | sample btn1 btn2 => exact sampleEvent_withSlots s l btn1 btn2
  | tick => rfl
  | reset => rfl

theorem runSteps_succ_of_refused {r : Refusal} (h : step s = .refused r) (n : Nat) :
    runSteps (n + 1) s = .refused r := by
  have hc : Sys2Proof.core.step s = .refused r := h
  simp only [runSteps, Host.Core.run, hc]
  rfl

theorem runSlots_cons_of_refused {a : Slot} {r : Refusal} (h : agentStep a s = .refused r) :
    runSlots (a :: l) s = .refused r := by
  simp only [runSlots, h]

/-- A step from a schedule that begins with a chosen slot: that agent's step, with the rest of the
schedule left as it was. -/
theorem step_withSlots_cons (a : Slot) :
    step (s.withSlots (a :: l)) = onNext (·.withSlots l) (agentStep a s) :=
  (step_of_slots (s := s.withSlots (a :: l)) rfl).trans (agentStep_withSlots s l a)

/-- The run over chosen slots, whatever schedule follows them: the first step is that of the first
agent, and it leaves the other slots to the steps after it. -/
theorem runSteps_withSlots_append (slots rest : List Slot) :
    runSteps slots.length (s.withSlots (slots ++ rest)) = runSlots slots (s.withSlots rest) := by
  induction slots generalizing s with
  | nil => rfl
  | cons a slots ih =>
    have hstep := step_withSlots_cons s (slots ++ rest) a
    have hslot := agentStep_withSlots s rest a
    rw [List.cons_append, List.length_cons]
    rcases h : agentStep a s with t | r | r <;> rw [h] at hstep hslot
    · rw [runSteps_succ_of_next hstep, runSlots_cons_of_next hslot]
      exact ih t
    · cases r
    · rw [runSteps_succ_of_refused _ hstep, runSlots_cons_of_refused _ _ hslot]

/-- Settles O7: the state of the statement is itself with its own schedule. -/
theorem runFollowsTheChosenSchedule : Obligations.RunFollowsTheChosenSchedule := by
  intro slots rest s hs
  have h := runSteps_withSlots_append s slots rest
  rwa [← hs, State.withSlots_self] at h

end Sys2Proof.Machine
end

section
/-! PROOF. What a step appends to BUSLOG and to the log of responses: at most one entry each (R16, R72). -/

namespace Sys2Proof.Machine

/-- `l'` is `l`, or `l` with one more entry at its end. -/
def AppendsAtMostOne {α : Type} (l l' : List α) : Prop := l' = l ∨ ∃ x, l' = l ++ [x]

@[simp] theorem AppendsAtMostOne.refl {α : Type} (l : List α) : AppendsAtMostOne l l := .inl rfl

@[simp] theorem AppendsAtMostOne.append_singleton {α : Type} (l : List α) (x : α) :
    AppendsAtMostOne l (l ++ [x]) := .inr ⟨x, rfl⟩

theorem AppendsAtMostOne.isPrefix_and_length_le {α : Type} {l l' : List α} (h : AppendsAtMostOne l l') :
    l <+: l' ∧ l'.length ≤ l.length + 1 := by
  obtain rfl | ⟨x, rfl⟩ := h
  · exact ⟨⟨[], List.append_nil _⟩, Nat.le_succ _⟩
  · exact ⟨⟨[x], rfl⟩, by simp⟩

/-- From s to t both logs keep what they hold and get at most one more entry each. -/
def State.LogsGrow (s t : State) : Prop :=
  AppendsAtMostOne s.busLog t.busLog ∧ AppendsAtMostOne s.responses t.responses

/-- RDBTN is one response and no other change (R162; R96 for the illegal channel numbers). -/
theorem execRdbtn_responds (c : Nibble) (s : State) :
    ∃ st v, execRdbtn c s = .next (s.respond st v) := by
  unfold execRdbtn
  split <;> exact ⟨_, _, rfl⟩

/-- RDCH is one response and no other change (R163; R96 for the illegal channel numbers). -/
theorem execRdch_responds (c : Nibble) (s : State) :
    ∃ st v, execRdch c s = .next (s.respond st v) := by
  unfold execRdch
  split <;> exact ⟨_, _, rfl⟩

/-- The issue of an operation makes no bus transaction; a display operation gives no response yet, the
others give theirs at once (R10, R121). -/
theorem exec_logsGrow {i : Instr} {s t : State} (h : exec i s = .next t) : s.LogsGrow t := by
  cases i with
  | wrcmd _ | wrdata _ | rdstat _ | init => cases h; exact ⟨.refl _, .refl _⟩
  | rdbtn c =>
    obtain ⟨st, v, hr⟩ := execRdbtn_responds c s
    cases hr.symm.trans h
    exact ⟨.refl _, .append_singleton _ _⟩
  | rdch c =>
    obtain ⟨st, v, hr⟩ := execRdch_responds c s
    cases hr.symm.trans h
    exact ⟨.refl _, .append_singleton _ _⟩
  | smpdis | smpen | rdtick | clrtick => cases h; exact ⟨.refl _, .append_singleton _ _⟩

theorem hostStep_logsGrow {s t : State} (h : hostStep s = .next t) : s.LogsGrow t := by
  obtain ⟨-, rfl⟩ | ⟨-, hissue⟩ := hostStep_cases h
  · exact ⟨.refl _, .refl _⟩
  · obtain ⟨i, -, hexec⟩ | ⟨-, rfl⟩ := issueWord_cases hissue
    · exact exec_logsGrow (s := s.setEnv s.env.dropWord) hexec
    · exact ⟨.refl _, .append_singleton _ _⟩

/-- A micro-step is at most one bus transaction or delay, and only the last one of an operation gives
the response. -/
theorem engineStep_logsGrow (s : State) : s.LogsGrow (engineStep s) := by
  obtain ⟨-, h⟩ | ⟨-, h⟩ | ⟨-, h⟩ | ⟨-, h⟩ | ⟨k, hk, -, h⟩ | ⟨-, h⟩ := engineStep_cases s
    <;> rw [h]
  · exact ⟨.refl _, .refl _⟩
  · exact ⟨.append_singleton _ _, .refl _⟩
  · exact ⟨.append_singleton _ _, .append_singleton _ _⟩
  · exact ⟨.append_singleton _ _, .append_singleton _ _⟩
  · exact ⟨.append_singleton _ _, .refl _⟩
  · exact ⟨.append_singleton _ _, .append_singleton _ _⟩

theorem sampleEvent_logsGrow {btn1 btn2 : Bool} {s t : State}
    (h : sampleEvent btn1 btn2 s = .next t) : s.LogsGrow t := by
  obtain ⟨-, rfl⟩ | ⟨-, -, -, rfl⟩ := sampleEvent_next h <;> exact ⟨.refl _, .refl _⟩

theorem step_logsGrow {s t : State} (h : step s = .next t) : s.LogsGrow t := by
  obtain ⟨-, hh⟩ | ⟨-, rfl⟩ | ⟨btn1, btn2, -, hs⟩ | ⟨-, rfl⟩ | ⟨-, rfl⟩ := step_cases h
  · exact hostStep_logsGrow (s := s.setEnv s.env.dropSlot) hh
  · exact engineStep_logsGrow (s.setEnv s.env.dropSlot)
  · exact sampleEvent_logsGrow (s := s.setEnv s.env.dropSlot) hs
  · exact ⟨.refl _, .refl _⟩
  · exact ⟨.refl _, .refl _⟩

/-- Settles O46: the step appends at most one entry to each log, whoever's turn it is. -/
theorem historiesOnlyGrow : Obligations.HistoriesOnlyGrow := by
  intro s t h
  obtain ⟨hbus, hresp⟩ := step_logsGrow h
  exact ⟨hbus.isPrefix_and_length_le, hresp.isPrefix_and_length_le⟩

end Sys2Proof.Machine
end

section
/-! PROOF. Everything an accepted operation can do, said once (the inversion lemma of `exec`). -/

namespace Sys2Proof.Machine

/-- The effect of an accepted operation: a response alone, a write of SMPEN or TICK with its response, or
the issue of a display operation (R121, R162 to R165, R191, R192). -/
theorem exec_cases {i : Instr} {s t : State} (h : exec i s = .next t) :
    (∃ st v, t = s.respond st v) ∨
    (i = .smpdis ∧ t = (s.setSmpen false).respondZero) ∨
    (i = .smpen ∧ t = (s.setSmpen true).respondZero) ∨
    (i = .clrtick ∧ t = (s.setTick (s.word 0)).respondZero) ∨
    (∃ a v, t = s.issueWrite a v) ∨
    (∃ a, i = .rdstat a ∧ t = (s.setDaddr a).setDseq .read) ∨
    (i = .init ∧ t = s.setDseq (.init 0)) := by
  cases i with
  | wrcmd v | wrdata v => cases h; exact .inr (.inr (.inr (.inr (.inl ⟨_, v, rfl⟩))))
  | rdstat a => cases h; exact .inr (.inr (.inr (.inr (.inr (.inl ⟨a, rfl, rfl⟩)))))
  | init => cases h; exact .inr (.inr (.inr (.inr (.inr (.inr ⟨rfl, rfl⟩)))))
  | rdbtn c =>
    obtain ⟨st, v, hr⟩ := execRdbtn_responds c s
    cases hr.symm.trans h
    exact .inl ⟨st, v, rfl⟩
  | rdch c =>
    obtain ⟨st, v, hr⟩ := execRdch_responds c s
    cases hr.symm.trans h
    exact .inl ⟨st, v, rfl⟩
  | smpdis => cases h; exact .inr (.inl ⟨rfl, rfl⟩)
  | smpen => cases h; exact .inr (.inr (.inl ⟨rfl, rfl⟩))
  | rdtick => cases h; exact .inl ⟨.ok, s.tick, rfl⟩
  | clrtick => cases h; exact .inr (.inr (.inr (.inl ⟨rfl, rfl⟩)))

end Sys2Proof.Machine
end

section
/-! PROOF. Who writes the eight channel registers: an unmasked SAMPLE and RESET, and both give registers
that meet R25 (a) and (b) (R40, R73, R161). -/

namespace Sys2Proof.Machine

theorem Channel.reset_inv : Channel.reset.Inv := ⟨by decide, rfl⟩

/-- After an agreement the count of a channel below the threshold is at most the threshold. -/
theorem Channel.agreements_le {ch : Channel} (h : ch.inRange = true) (current : Bool) :
    ch.agreements current ≤ Config.dbThresh := by
  have hlt : ch.cnt.toNat < Config.dbThresh := of_decide_eq_true h
  by_cases hc : current = ch.prev
  · rw [Channel.agreements_of_agree hc]; exact hlt
  · rw [Channel.agreements_of_disagree hc]; exact Nat.zero_le _

/-- R25 (a) needs the commit: a count that reaches the threshold is written back as 0, and one that does
not stays below it. RAW and PREV are written with the same level. -/
theorem Channel.dbStep_inv {ch : Channel} (h : ch.inRange = true) (current : Bool) :
    (ch.dbStep current).Inv := by
  obtain ⟨-, heq⟩ | ⟨hno, heq⟩ := ch.dbStep_cases current <;> rw [heq]
  · exact ⟨Nat.zero_le _, rfl⟩
  · have hle := Channel.agreements_le h current
    have hne : ch.agreements current ≠ Config.dbThresh := by simpa [Channel.commits] using hno
    refine ⟨?_, rfl⟩
    simp only [Config.dbThresh, BitVec.toNat_ofNat] at hle hne ⊢
    omega

/-- No host operation writes a channel register. -/
theorem exec_channels {i : Instr} {s t : State} (h : exec i s = .next t) :
    t.ch1 = s.ch1 ∧ t.ch2 = s.ch2 := by
  obtain ⟨_, _, rfl⟩ | ⟨-, rfl⟩ | ⟨-, rfl⟩ | ⟨-, rfl⟩ | ⟨_, _, rfl⟩ | ⟨_, -, rfl⟩ | ⟨-, rfl⟩ :=
    exec_cases h <;> exact ⟨rfl, rfl⟩

theorem hostStep_channels {s t : State} (h : hostStep s = .next t) :
    t.ch1 = s.ch1 ∧ t.ch2 = s.ch2 := by
  obtain ⟨-, rfl⟩ | ⟨-, hissue⟩ := hostStep_cases h
  · exact ⟨rfl, rfl⟩
  · obtain ⟨i, -, hexec⟩ | ⟨-, rfl⟩ := issueWord_cases hissue
    · exact exec_channels (s := s.setEnv s.env.dropWord) hexec
    · exact ⟨rfl, rfl⟩

theorem engineStep_channels (s : State) :
    (engineStep s).ch1 = s.ch1 ∧ (engineStep s).ch2 = s.ch2 := by
  obtain ⟨-, h⟩ | ⟨-, h⟩ | ⟨-, h⟩ | ⟨-, h⟩ | ⟨k, hk, -, h⟩ | ⟨-, h⟩ := engineStep_cases s
    <;> rw [h] <;> exact ⟨rfl, rfl⟩

/-- Everything a step can do to the channel registers: keep them, take an unmasked sample in each, or
reset them (R73). -/
theorem step_channels_cases {s t : State} (h : step s = .next t) :
    (t.ch1 = s.ch1 ∧ t.ch2 = s.ch2) ∨
    (∃ btn1 btn2, s.env.nextSlot = .sample btn1 btn2 ∧ s.smpen = true ∧
      s.ch1.inRange = true ∧ s.ch2.inRange = true ∧
      t.ch1 = s.ch1.dbStep btn1 ∧ t.ch2 = s.ch2.dbStep btn2) ∨
    (s.env.nextSlot = .reset ∧ t.ch1 = Channel.reset ∧ t.ch2 = Channel.reset) := by
  obtain ⟨-, hh⟩ | ⟨-, rfl⟩ | ⟨btn1, btn2, hslot, hs⟩ | ⟨-, rfl⟩ | ⟨hslot, rfl⟩ := step_cases h
  · exact .inl (hostStep_channels (s := s.setEnv s.env.dropSlot) hh)
  · exact .inl (engineStep_channels (s.setEnv s.env.dropSlot))
  · obtain ⟨-, rfl⟩ | ⟨hen, hr1, hr2, rfl⟩ := sampleEvent_next hs
    · exact .inl ⟨rfl, rfl⟩
    · exact .inr (.inl ⟨btn1, btn2, hslot, hen, hr1, hr2, rfl, rfl⟩)
  · exact .inl ⟨rfl, rfl⟩
  · exact .inr (.inr ⟨hslot, rfl, rfl⟩)

/-- Settles O9: kept channels meet R25 as before, and those written by a sample or a RESET meet it
whatever they held. -/
theorem everyStepKeepsTheChannelInvariant : Obligations.EveryStepKeepsTheChannelInvariant := by
  intro s t hinv h
  unfold State.Inv
  obtain ⟨h1, h2⟩ | ⟨btn1, btn2, -, -, hr1, hr2, h1, h2⟩ | ⟨-, h1, h2⟩ := step_channels_cases h
    <;> rw [h1, h2]
  · exact hinv
  · exact ⟨Channel.dbStep_inv hr1 btn1, Channel.dbStep_inv hr2 btn2⟩
  · exact ⟨Channel.reset_inv, Channel.reset_inv⟩

/-- Settles O10: both channels are the reset channel. -/
theorem channelInvariantAtReset : Obligations.ChannelInvariantAtReset :=
  ⟨Channel.reset_inv, Channel.reset_inv⟩

/-- Settles O11: R40's values are the fields of `State.reset` as it is written. -/
theorem resetStateHoldsTheSpecValues : Obligations.ResetStateHoldsTheSpecValues :=
  ⟨rfl, rfl, rfl, rfl, rfl, rfl⟩

end Sys2Proof.Machine
end

section
/-! PROOF. What each agent does to DSEQ (R33, R138). -/

namespace Sys2Proof.Machine

/-- The issue of a display operation sets DSEQ to POLL, READ or INIT(0); the other operations keep it
(R121). -/
theorem exec_dseq {i : Instr} {s t : State} (h : exec i s = .next t) :
    t.dseq = s.dseq ∨ t.dseq = .poll ∨ t.dseq = .read ∨ t.dseq = .init 0 := by
  obtain ⟨_, _, rfl⟩ | ⟨-, rfl⟩ | ⟨-, rfl⟩ | ⟨-, rfl⟩ | ⟨_, _, rfl⟩ | ⟨_, -, rfl⟩ | ⟨-, rfl⟩ :=
    exec_cases h
  · exact .inl rfl
  · exact .inl rfl
  · exact .inl rfl
  · exact .inl rfl
  · exact .inr (.inl rfl)
  · exact .inr (.inr (.inl rfl))
  · exact .inr (.inr (.inr rfl))

/-- The HOST moves DSEQ only from IDLE, by an issue (R10, R33). -/
theorem hostStep_dseq {s t : State} (h : hostStep s = .next t) :
    t.dseq = s.dseq ∨
    (s.dseq = .idle ∧ (t.dseq = .poll ∨ t.dseq = .read ∨ t.dseq = .init 0)) := by
  obtain ⟨-, rfl⟩ | ⟨hidle, hissue⟩ := hostStep_cases h
  · exact .inl rfl
  · obtain ⟨i, -, hexec⟩ | ⟨-, rfl⟩ := issueWord_cases hissue
    · exact (exec_dseq (s := s.setEnv s.env.dropWord) hexec).imp_right fun hd => ⟨hidle, hd⟩
    · exact .inl rfl

/-- The POLL micro-step stays in POLL while the device is busy, and goes on to WRITE else (R124). -/
theorem pollStep_dseq (s : State) : (pollStep s).dseq = .poll ∨ (pollStep s).dseq = .write :=
  ite_eq_or_eq (busyFlag s.readValue = true) Dseq.poll Dseq.write

/-- The transfers of an ENGINE micro-step; the idle engine and the busy poll keep DSEQ (R33, R120,
R124). -/
theorem engineStep_dseq (s : State) :
    (engineStep s).dseq = s.dseq ∨
    (s.dseq = .poll ∧ (engineStep s).dseq = .write) ∨
    (s.dseq = .write ∧ (engineStep s).dseq = .idle) ∨
    (s.dseq = .read ∧ (engineStep s).dseq = .idle) ∨
    (∃ k k' : Fin 9, s.dseq = .init k ∧ (engineStep s).dseq = .init k' ∧ k'.val = k.val + 1) ∨
    (s.dseq = .init 8 ∧ (engineStep s).dseq = .idle) := by
  obtain ⟨-, h⟩ | ⟨hd, h⟩ | ⟨hd, h⟩ | ⟨hd, h⟩ | ⟨k, hk, hd, h⟩ | ⟨hd, h⟩ := engineStep_cases s
    <;> rw [h]
  · exact .inl rfl
  · exact (pollStep_dseq s).imp (·.trans hd.symm) fun hw => .inl ⟨hd, hw⟩
  · exact .inr (.inr (.inl ⟨hd, rfl⟩))
  · exact .inr (.inr (.inr (.inl ⟨hd, rfl⟩)))
  · exact .inr (.inr (.inr (.inr (.inl ⟨k, ⟨k.val + 1, by omega⟩, hd, rfl, rfl⟩))))
  · exact .inr (.inr (.inr (.inr (.inr ⟨hd, rfl⟩))))

/-- Settles O23: SAMPLE and TICK keep DSEQ, RESET makes it IDLE, and the HOST and the ENGINE move it by
their own transfers only. -/
theorem sequencerTransfers : Obligations.SequencerTransfers := by
  intro s t h hne
  obtain ⟨hslot, hh⟩ | ⟨hslot, rfl⟩ | ⟨_, _, -, hs⟩ | ⟨-, rfl⟩ | ⟨hslot, rfl⟩ := step_cases h
  · obtain ⟨hidle, htarget⟩ :=
      (hostStep_dseq (s := s.setEnv s.env.dropSlot) hh).resolve_left hne
    exact .inr (.inl ⟨hslot, hidle, htarget⟩)
  · exact .inr (.inr ⟨hslot, (engineStep_dseq (s.setEnv s.env.dropSlot)).resolve_left hne⟩)
  · obtain ⟨-, rfl⟩ | ⟨-, -, -, rfl⟩ := sampleEvent_next hs <;> exact absurd rfl hne
  · exact absurd rfl hne
  · exact .inl ⟨hslot, rfl⟩

end Sys2Proof.Machine
end

section
/-! PROOF. Who writes STABLE, TICK and SMPEN (R73): a commit, the TICK event, the three host operations
CLRTICK, SMPDIS and SMPEN, and RESET. -/

namespace Sys2Proof.Machine

/-- R161, R170 (a): a sample that changes STABLE commits, and STABLE takes the sampled level. -/
theorem Channel.commits_of_stable_ne {ch ch' : Channel} {current : Bool}
    (hstep : ch' = ch.dbStep current) (hne : ch'.stable ≠ ch.stable) :
    ch.commits current = true ∧ ch'.stable = current := by
  obtain ⟨hyes, heq⟩ | ⟨-, heq⟩ := ch.dbStep_cases current <;> cases hstep.trans heq
  · exact ⟨hyes, rfl⟩
  · exact absurd rfl hne

/-- The writers of the channel registers: an unmasked SAMPLE, which samples both channels, and RESET. -/
theorem step_channels_writer {s t : State} (h : step s = .next t)
    (hne : t.ch1 ≠ s.ch1 ∨ t.ch2 ≠ s.ch2) :
    s.env.nextSlot = .reset ∨
      s.smpen = true ∧ ∃ btn1 btn2, s.env.nextSlot = .sample btn1 btn2 ∧
        t.ch1 = s.ch1.dbStep btn1 ∧ t.ch2 = s.ch2.dbStep btn2 := by
  obtain ⟨h1, h2⟩ | ⟨btn1, btn2, hslot, hen, -, -, h1, h2⟩ | ⟨hslot, -, -⟩ := step_channels_cases h
  · exact (hne.elim (· h1) (· h2)).elim
  · exact .inr ⟨hen, btn1, btn2, hslot, h1, h2⟩
  · exact .inl hslot

/-- Of the host operations only CLRTICK writes TICK. -/
theorem exec_tick_writer {i : Instr} {s t : State} (h : exec i s = .next t) (hne : t.tick ≠ s.tick) :
    i = .clrtick := by
  obtain ⟨_, _, rfl⟩ | ⟨-, rfl⟩ | ⟨-, rfl⟩ | ⟨hi, -⟩ | ⟨_, _, rfl⟩ | ⟨_, -, rfl⟩ | ⟨-, rfl⟩ :=
    exec_cases h
  case inr.inr.inr.inl => exact hi
  all_goals exact absurd rfl hne

/-- Of the host operations only SMPDIS and SMPEN write SMPEN. -/
theorem exec_smpen_writer {i : Instr} {s t : State} (h : exec i s = .next t)
    (hne : t.smpen ≠ s.smpen) : i = .smpdis ∨ i = .smpen := by
  obtain ⟨_, _, rfl⟩ | ⟨hi, -⟩ | ⟨hi, -⟩ | ⟨-, rfl⟩ | ⟨_, _, rfl⟩ | ⟨_, -, rfl⟩ | ⟨-, rfl⟩ :=
    exec_cases h
  case inr.inl => exact .inl hi
  case inr.inr.inl => exact .inr hi
  all_goals exact absurd rfl hne

/-- A HOST turn that changes a field which neither an input nor an ILLEGAL response touches has issued a
legal word, and the operation of that word changed the field. -/
theorem hostStep_changes {α : Type} (field : State → α) (henv : ∀ u e, field (u.setEnv e) = field u)
    (hillegal : ∀ u, field u.raiseIllegal = field u) {s t : State} (h : hostStep s = .next t)
    (hne : field t ≠ field s) :
    s.dseq = .idle ∧ ∃ i u, decode s.env.nextWord = .ok i ∧ exec i u = .next t ∧ field t ≠ field u := by
  obtain ⟨-, rfl⟩ | ⟨hidle, hissue⟩ := hostStep_cases h
  · exact absurd rfl hne
  · obtain ⟨i, hdecode, hexec⟩ | ⟨-, rfl⟩ := issueWord_cases hissue
    · exact ⟨hidle, i, _, hdecode, hexec, by rwa [henv]⟩
    · exact absurd ((hillegal _).trans (henv _ _)) hne

/-- A micro-step of the engine touches neither TICK nor SMPEN (R134). -/
theorem engineStep_tick_smpen (s : State) :
    (engineStep s).tick = s.tick ∧ (engineStep s).smpen = s.smpen := by
  obtain ⟨-, h⟩ | ⟨-, h⟩ | ⟨-, h⟩ | ⟨-, h⟩ | ⟨k, hk, -, h⟩ | ⟨-, h⟩ := engineStep_cases s
    <;> rw [h] <;> exact ⟨rfl, rfl⟩

theorem sampleEvent_tick_smpen {btn1 btn2 : Bool} {s t : State}
    (h : sampleEvent btn1 btn2 s = .next t) : t.tick = s.tick ∧ t.smpen = s.smpen := by
  obtain ⟨-, rfl⟩ | ⟨-, -, -, rfl⟩ := sampleEvent_next h <;> exact ⟨rfl, rfl⟩

/-- The writers of TICK: CLRTICK, the TICK event and RESET. -/
theorem step_tick_writer {s t : State} (h : step s = .next t) (hne : t.tick ≠ s.tick) :
    s.env.nextSlot = .reset ∨ s.env.nextSlot = .tick ∨
      s.env.nextSlot = .host ∧ s.dseq = .idle ∧ decode s.env.dropSlot.nextWord = .ok .clrtick := by
  obtain ⟨hslot, hh⟩ | ⟨-, rfl⟩ | ⟨_, _, -, hs⟩ | ⟨hslot, -⟩ | ⟨hslot, -⟩ := step_cases h
  · obtain ⟨hidle, i, u, hdecode, hexec, hu⟩ :=
      hostStep_changes (s := s.setEnv s.env.dropSlot) State.tick (fun _ _ => rfl) (fun _ => rfl) hh hne
    cases exec_tick_writer hexec hu
    exact .inr (.inr ⟨hslot, hidle, hdecode⟩)
  · exact absurd (engineStep_tick_smpen (s.setEnv s.env.dropSlot)).1 hne
  · exact absurd (sampleEvent_tick_smpen (s := s.setEnv s.env.dropSlot) hs).1 hne
  · exact .inr (.inl hslot)
  · exact .inl hslot

/-- The writers of SMPEN: SMPDIS, SMPEN and RESET. -/
theorem step_smpen_writer {s t : State} (h : step s = .next t) (hne : t.smpen ≠ s.smpen) :
    s.env.nextSlot = .reset ∨ s.env.nextSlot = .host ∧ s.dseq = .idle ∧
      (decode s.env.dropSlot.nextWord = .ok .smpdis ∨
        decode s.env.dropSlot.nextWord = .ok .smpen) := by
  obtain ⟨hslot, hh⟩ | ⟨-, rfl⟩ | ⟨_, _, -, hs⟩ | ⟨-, rfl⟩ | ⟨hslot, -⟩ := step_cases h
  · obtain ⟨hidle, i, u, hdecode, hexec, hu⟩ :=
      hostStep_changes (s := s.setEnv s.env.dropSlot) State.smpen (fun _ _ => rfl) (fun _ => rfl) hh hne
    refine .inr ⟨hslot, hidle, ?_⟩
    obtain rfl | rfl := exec_smpen_writer hexec hu
    · exact .inl hdecode
    · exact .inr hdecode
  · exact absurd (engineStep_tick_smpen (s.setEnv s.env.dropSlot)).2 hne
  · exact absurd (sampleEvent_tick_smpen (s := s.setEnv s.env.dropSlot) hs).2 hne
  · exact absurd rfl hne
  · exact .inl hslot

/-- Settles O44: one writer lemma per field; a STABLE that changes has changed in its channel's sample,
so that sample commits. -/
theorem sharedFieldsHaveTheirWriters : Obligations.SharedFieldsHaveTheirWriters := by
  intro s t h
  refine ⟨fun hne => ?_, fun hne => ?_, fun hne => ?_, step_tick_writer h, step_smpen_writer h⟩
  · exact (step_channels_writer h hne).imp_right fun ⟨hen, btn1, btn2, hslot, _, _⟩ =>
      ⟨hen, btn1, btn2, hslot⟩
  · exact (step_channels_writer h (.inl (ne_of_apply_ne _ hne))).imp_right
      fun ⟨_, btn1, btn2, hslot, h1, _⟩ => ⟨btn1, btn2, hslot, Channel.commits_of_stable_ne h1 hne⟩
  · exact (step_channels_writer h (.inr (ne_of_apply_ne _ hne))).imp_right
      fun ⟨_, btn1, btn2, hslot, _, h2⟩ => ⟨btn1, btn2, hslot, Channel.commits_of_stable_ne h2 hne⟩

end Sys2Proof.Machine
end

section
/-! PROOF. The reference device, transaction by transaction (R70). -/

namespace Sys2Proof.Machine

/-- AC as a number: the seven low bits of the status byte (R63). -/
theorem cursorAddress_eq_ofNat_iff (status : Byte) (n : Nat) :
    cursorAddress status = BitVec.ofNat 7 n ↔ status.toNat % 128 = n % 128 := by
  simp [cursorAddress, ← BitVec.toNat_inj]

theorem RefDevice.onEvent_wr_data (d : RefDevice) (c : CommandBytes) (v : Byte) :
    d.onEvent c (.wr 1 v) = some { d with ac := (d.ac + 1) % d.span } := rfl

/-- An answer at address 0 is the device's when it holds AC. -/
theorem RefDevice.onEvent_rd_cmd_iff (d : RefDevice) (c : CommandBytes) (v : Byte) :
    d.onEvent c (.rd 0 v) = some d ↔ v.toNat % 128 = d.ac % 128 := by
  simp [RefDevice.onEvent, Config.addrCmd, cursorAddress_eq_ofNat_iff]

theorem RefDevice.onEvent_wr_clear (d : RefDevice) (c : CommandBytes) :
    d.onEvent c (.wr 0 c.clear) = some { d with ac := 0 } := by
  simp [RefDevice.onEvent, Config.addrData]

/-- A command that keeps the cursor leaves the device as it was, unless its byte is also that of
clear-display, which the device reads first. -/
theorem RefDevice.onEvent_wr_keeps {c : CommandBytes} {v : Byte} (hkeep : keepsCursor c v = true)
    (hne : v ≠ c.clear) (d : RefDevice) : d.onEvent c (.wr 0 v) = some d := by
  simp [RefDevice.onEvent, Config.addrData, hkeep, hne]

/-- Settles O25: one clause of the table for each of the transactions above. -/
theorem referenceDeviceFollowsItsTable : Obligations.ReferenceDeviceFollowsItsTable := by
  intro d c v
  exact ⟨d.onEvent_wr_data c v, d.onEvent_rd_cmd_iff c v, d.onEvent_wr_clear c,
    fun hne => RefDevice.onEvent_wr_keeps (by simp [keepsCursor]) hne d,
    fun hne => RefDevice.onEvent_wr_keeps (by simp [keepsCursor]) hne d,
    fun hne => RefDevice.onEvent_wr_keeps (by simp [keepsCursor]) hne d⟩

end Sys2Proof.Machine
end

section
/-! PROOF. The two directions of the round trip: a word is its three fields, and each decoder of R105
accepts exactly the fields of its rows (R94, R105). -/

namespace Sys2Proof

/-! ### The fields of a word -/

theorem opc_toNat (w : OpWord) : (OpWord.opc w).toNat = w.toNat / 4096 := by
  have := w.isLt
  simp only [OpWord.opc, BitVec.extractLsb'_toNat, Nat.shiftRight_eq_div_pow]
  omega

theorem sub_toNat (w : OpWord) : (OpWord.sub w).toNat = w.toNat / 256 % 16 := by
  simp [OpWord.sub, Nat.shiftRight_eq_div_pow]

theorem imm_toNat (w : OpWord) : (OpWord.imm w).toNat = w.toNat % 256 := by
  simp [OpWord.imm]

theorem addr_toNat (w : OpWord) : (OpWord.addr w).toNat = w.toNat / 256 % 2 := by
  simp [OpWord.addr, Nat.shiftRight_eq_div_pow]

theorem addrHigh_toNat (w : OpWord) : (OpWord.addrHigh w).toNat = w.toNat / 512 % 8 := by
  simp [OpWord.addrHigh, Nat.shiftRight_eq_div_pow]

/-- The word with given fields is the one word that has them (R91). -/
theorem formatH_eq_iff {opc sub : Nibble} {imm8 : Byte} {w : OpWord} :
    formatH opc sub imm8 = w ↔ OpWord.opc w = opc ∧ OpWord.sub w = sub ∧ OpWord.imm w = imm8 := by
  constructor
  · rintro rfl
    simp
  · rintro ⟨rfl, rfl, rfl⟩
    exact formatH_fields w

/-- The address bit is the low bit of SUB (R92). -/
theorem addr_eq_setWidth_sub (w : OpWord) : OpWord.addr w = (OpWord.sub w).setWidth 1 := by
  apply BitVec.eq_of_toNat_eq
  rw [BitVec.toNat_setWidth, addr_toNat, sub_toNat]
  omega

/-- SUB is a bus address exactly when its three high bits are zero (R92). -/
theorem addrHigh_eq_zero_iff {w : OpWord} :
    OpWord.addrHigh w = 0#3 ↔ OpWord.sub w = (OpWord.addr w).setWidth 4 := by
  simp only [← BitVec.toNat_inj, BitVec.toNat_setWidth, BitVec.toNat_ofNat, addrHigh_toNat, addr_toNat,
    sub_toNat]
  omega

/-! ### What each decoder accepts -/

theorem ite_error_eq_ok_iff {ε α : Type} {p : Prop} [Decidable p] {x : Except ε α} {e : ε} {a : α} :
    (if p then x else .error e) = .ok a ↔ p ∧ x = .ok a := by
  split <;> simp [*]

theorem decodeBare_eq_ok_iff {w : OpWord} {op i : Instr} :
    decodeBare w op = .ok i ↔ OpWord.sub w = 0 ∧ OpWord.imm w = 0 ∧ op = i := by
  simp only [decodeBare, ite_error_eq_ok_iff, Except.ok.injEq]

theorem decodeByte_eq_ok_iff {w : OpWord} {mk : Byte → Instr} {i : Instr} :
    decodeByte w mk = .ok i ↔ OpWord.sub w = 0 ∧ mk (OpWord.imm w) = i := by
  simp only [decodeByte, ite_error_eq_ok_iff, Except.ok.injEq]

theorem decodeChannel_eq_ok_iff {w : OpWord} {mk : Nibble → Instr} {i : Instr} :
    decodeChannel w mk = .ok i ↔
      legalChannel (OpWord.sub w) = true ∧ OpWord.imm w = 0 ∧ mk (OpWord.sub w) = i := by
  simp only [decodeChannel, ite_error_eq_ok_iff, Except.ok.injEq]

theorem decodeStatus_eq_ok_iff {w : OpWord} {i : Instr} :
    decodeStatus w = .ok i ↔
      OpWord.addrHigh w = 0 ∧ OpWord.imm w = 0 ∧ .rdstat (OpWord.addr w) = i := by
  simp only [decodeStatus, ite_error_eq_ok_iff, Except.ok.injEq]

/-- Settles O2: the decoder finds in the word the fields that the encoder put there. -/
theorem decodeOfEncodeIsTheOperation : Obligations.DecodeOfEncodeIsTheOperation := by
  intro i hwf
  cases i with
  | wrcmd v | wrdata v => simp [encode, decode, decodeByte_eq_ok_iff]
  | rdstat a =>
    simp [encode, decode, decodeStatus_eq_ok_iff, addrHigh_eq_zero_iff, addr_eq_setWidth_sub]
  | rdbtn c | rdch c =>
    have hc : legalChannel c = true := hwf
    simp [encode, decode, decodeChannel_eq_ok_iff, hc]
  | init | smpdis | smpen | rdtick | clrtick => simp [encode, decode, decodeBare_eq_ok_iff]

/-- Settles O3: an accepted word has the opcode of its row, and the other fields as its row's decoder has
checked them. -/
theorem encodeOfDecodeIsTheWord : Obligations.EncodeOfDecodeIsTheWord := by
  intro w i h
  unfold decode at h
  split at h
  case h_1 hopc | h_2 hopc =>
    obtain ⟨hsub, rfl⟩ := decodeByte_eq_ok_iff.1 h
    exact ⟨formatH_eq_iff.2 ⟨BitVec.eq_of_toNat_eq hopc, hsub, rfl⟩, rfl⟩
  case h_3 hopc =>
    obtain ⟨hhigh, himm, rfl⟩ := decodeStatus_eq_ok_iff.1 h
    exact ⟨formatH_eq_iff.2
      ⟨BitVec.eq_of_toNat_eq hopc, addrHigh_eq_zero_iff.1 hhigh, himm⟩, rfl⟩
  case h_4 hopc | h_7 hopc | h_8 hopc | h_9 hopc | h_10 hopc =>
    obtain ⟨hsub, himm, rfl⟩ := decodeBare_eq_ok_iff.1 h
    exact ⟨formatH_eq_iff.2 ⟨BitVec.eq_of_toNat_eq hopc, hsub, himm⟩, rfl⟩
  case h_5 hopc | h_6 hopc =>
    obtain ⟨hc, himm, rfl⟩ := decodeChannel_eq_ok_iff.1 h
    exact ⟨formatH_eq_iff.2 ⟨BitVec.eq_of_toNat_eq hopc, rfl, himm⟩, hc⟩
  case h_11 => cases h

/-- Settles O1: `decode` evaluated at each of the words. -/
theorem decodesTheExactWords : Obligations.DecodesTheExactWords := by
  unfold Obligations.DecodesTheExactWords
  decide

end Sys2Proof
end

section
/-! PROOF. R94's match and mask, field by field. -/

namespace Sys2Proof

theorem opc_and (v w : OpWord) : OpWord.opc (v &&& w) = OpWord.opc v &&& OpWord.opc w :=
  BitVec.extractLsb'_and

theorem sub_and (v w : OpWord) : OpWord.sub (v &&& w) = OpWord.sub v &&& OpWord.sub w :=
  BitVec.extractLsb'_and

theorem imm_and (v w : OpWord) : OpWord.imm (v &&& w) = OpWord.imm v &&& OpWord.imm w :=
  BitVec.extractLsb'_and

/-- A word under a mask is a match exactly when each of its fields under the mask's is the match's. -/
theorem and_formatH_eq_formatH_iff {w : OpWord} {opc sub opc' sub' : Nibble} {imm8 imm8' : Byte} :
    w &&& formatH opc sub imm8 = formatH opc' sub' imm8' ↔
      OpWord.opc w &&& opc = opc' ∧ OpWord.sub w &&& sub = sub' ∧ OpWord.imm w &&& imm8 = imm8' := by
  rw [eq_comm, formatH_eq_iff, opc_and, sub_and, imm_and, opc_formatH, sub_formatH, imm_formatH]

/-- The rows with a byte operand look at OPC and SUB. -/
theorem and_byteMask_eq_iff {w : OpWord} {opc : Nibble} :
    w &&& 0xFF00 = formatH opc 0 0 ↔ OpWord.opc w = opc ∧ OpWord.sub w = 0 := by
  have hmask : (0xFF00 : OpWord) = formatH (.allOnes 4) (.allOnes 4) 0 := rfl
  rw [hmask, and_formatH_eq_formatH_iff, BitVec.and_allOnes, BitVec.and_allOnes]
  simp

/-- The rows with a channel number look at OPC and IMM8. -/
theorem and_channelMask_eq_iff {w : OpWord} {opc : Nibble} :
    w &&& 0xF0FF = formatH opc 0 0 ↔ OpWord.opc w = opc ∧ OpWord.imm w = 0 := by
  have hmask : (0xF0FF : OpWord) = formatH (.allOnes 4) 0 (.allOnes 8) := rfl
  rw [hmask, and_formatH_eq_formatH_iff, BitVec.and_allOnes, BitVec.and_allOnes]
  simp

/-- The row of RDSTAT looks at OPC, at the three high bits of SUB and at IMM8. -/
theorem and_statusMask_eq_iff {w : OpWord} {opc : Nibble} :
    w &&& 0xFEFF = formatH opc 0 0 ↔
      OpWord.opc w = opc ∧ OpWord.sub w &&& 0xE = 0 ∧ OpWord.imm w = 0 := by
  have hmask : (0xFEFF : OpWord) = formatH (.allOnes 4) 0xE (.allOnes 8) := rfl
  rw [hmask, and_formatH_eq_formatH_iff, BitVec.and_allOnes, BitVec.and_allOnes]

/-- A nibble without its three high bits is its low bit. -/
theorem eq_setWidth_of_and_eq_zero {sub : Nibble} (h : sub &&& 0xE = 0) :
    sub = (sub.setWidth 1).setWidth 4 := by
  revert sub; decide

/-- R94: the word of a well-formed operation stands in that operation's row. -/
theorem encode_and_maskBits {i : Instr} (hwf : i.wellFormed = true) :
    encode i &&& i.maskBits = i.matchBits := by
  cases i with
  | wrcmd v => exact Laws.RowMatch.wrcmd v hwf
  | wrdata v => exact Laws.RowMatch.wrdata v hwf
  | rdstat a => exact Laws.RowMatch.rdstat a hwf
  | init => exact Laws.RowMatch.init hwf
  | rdbtn c => exact Laws.RowMatch.rdbtn c hwf
  | rdch c => exact Laws.RowMatch.rdch c hwf
  | smpdis => exact Laws.RowMatch.smpdis hwf
  | smpen => exact Laws.RowMatch.smpen hwf
  | rdtick => exact Laws.RowMatch.rdtick hwf
  | clrtick => exact Laws.RowMatch.clrtick hwf

/-- R94: a word in an operation's row that meets the row's operand constraint is the word of a
well-formed operation of that row. -/
theorem exists_encode_eq_of_row {w : OpWord} {i : Instr} (hrow : w &&& i.maskBits = i.matchBits)
    (hc : i.mnemonic = "RDBTN" ∨ i.mnemonic = "RDCH" → legalChannel (OpWord.sub w) = true) :
    ∃ j : Instr, j.wellFormed = true ∧ encode j = w ∧ j.mnemonic = i.mnemonic := by
  cases i with
  | wrcmd v =>
    obtain ⟨hopc, hsub⟩ := and_byteMask_eq_iff (opc := 1).1 hrow
    exact ⟨.wrcmd (OpWord.imm w), rfl, formatH_eq_iff.2 ⟨hopc, hsub, rfl⟩, rfl⟩
  | wrdata v =>
    obtain ⟨hopc, hsub⟩ := and_byteMask_eq_iff (opc := 2).1 hrow
    exact ⟨.wrdata (OpWord.imm w), rfl, formatH_eq_iff.2 ⟨hopc, hsub, rfl⟩, rfl⟩
  | rdstat a =>
    obtain ⟨hopc, hsub, himm⟩ := and_statusMask_eq_iff (opc := 3).1 hrow
    exact ⟨.rdstat _, rfl, formatH_eq_iff.2 ⟨hopc, eq_setWidth_of_and_eq_zero hsub, himm⟩, rfl⟩
  | rdbtn c =>
    obtain ⟨hopc, himm⟩ := and_channelMask_eq_iff (opc := 5).1 hrow
    exact ⟨.rdbtn (OpWord.sub w), hc (.inl rfl), formatH_eq_iff.2 ⟨hopc, rfl, himm⟩, rfl⟩
  | rdch c =>
    obtain ⟨hopc, himm⟩ := and_channelMask_eq_iff (opc := 6).1 hrow
    exact ⟨.rdch (OpWord.sub w), hc (.inr rfl), formatH_eq_iff.2 ⟨hopc, rfl, himm⟩, rfl⟩
  | init => exact ⟨.init, rfl, hrow.symm.trans BitVec.and_allOnes, rfl⟩
  | smpdis => exact ⟨.smpdis, rfl, hrow.symm.trans BitVec.and_allOnes, rfl⟩
  | smpen => exact ⟨.smpen, rfl, hrow.symm.trans BitVec.and_allOnes, rfl⟩
  | rdtick => exact ⟨.rdtick, rfl, hrow.symm.trans BitVec.and_allOnes, rfl⟩
  | clrtick => exact ⟨.clrtick, rfl, hrow.symm.trans BitVec.and_allOnes, rfl⟩

/-- Settles O4: an accepted word is the word of its operation, and so in its row; a word in a row is the
word of an operation of that row, and decodes to it. -/
theorem wordSelectsTheOperationOfItsRow : Obligations.WordSelectsTheOperationOfItsRow := by
  refine fun w => ⟨fun i hdecode => ?_, fun i hrow hc => ?_⟩
  · obtain ⟨rfl, hwf⟩ := encodeOfDecodeIsTheWord w i hdecode
    exact encode_and_maskBits hwf
  · obtain ⟨j, hwf, rfl, hmn⟩ := exists_encode_eq_of_row hrow hc
    exact ⟨j, decodeOfEncodeIsTheOperation j hwf, hmn⟩

end Sys2Proof
end

section
/-! PROOF. The words that the decoder rejects are those of R96's list, and one of them is answered
(ILLEGAL, 0) with no other change (R96, R212). -/

namespace Sys2Proof

theorem legalChannel_eq_true_iff {c : Nibble} : legalChannel c = true ↔ c = 1 ∨ c = 2 := by
  simp [legalChannel]

theorem exists_error_iff {ε α : Type} {x : Except ε α} :
    (∃ e, x = .error e) ↔ ¬ ∃ a, x = .ok a := by
  cases x <;> simp

/-- The decoder rejects exactly the words of R96's list, condition by condition under each opcode. -/
theorem decode_error_iff_illegalNumber (w : OpWord) :
    (∃ r, decode w = .error r) ↔ illegalNumber w.toNat = true := by
  rw [exists_error_iff]
  unfold decode
  rw [opc_toNat]
  split
  case h_1 hopc | h_2 hopc =>
    simp [decodeByte_eq_ok_iff, illegalNumber, hopc, ← BitVec.toNat_inj, sub_toNat]
  case h_3 hopc =>
    simp [decodeStatus_eq_ok_iff, illegalNumber, hopc, ← BitVec.toNat_inj, addrHigh_toNat, imm_toNat,
      imp_iff_not_or]
  case h_4 hopc | h_7 hopc | h_8 hopc | h_9 hopc | h_10 hopc =>
    have hzero : w.toNat % 4096 = 0 ↔ w.toNat / 256 % 16 = 0 ∧ w.toNat % 256 = 0 := by omega
    simp [decodeBare_eq_ok_iff, illegalNumber, hopc, ← BitVec.toNat_inj, sub_toNat, imm_toNat, hzero]
  case h_5 hopc | h_6 hopc =>
    simp [decodeChannel_eq_ok_iff, legalChannel_eq_true_iff, illegalNumber, hopc, ← BitVec.toNat_inj,
      sub_toNat, imm_toNat, imp_iff_not_or]
  case h_11 =>
    simp only [imp_false] at *
    have hreserved : w.toNat / 4096 = 0 ∨ 0xB ≤ w.toNat / 4096 := by omega
    obtain h | h := hreserved <;> simp [illegalNumber, h]

end Sys2Proof

namespace Sys2Proof.Machine

/-- Settles O5: R96's list is what the decoder rejects, and an issued word that it rejects is answered by
`State.raiseIllegal`. -/
theorem illegalWordIsAnsweredAndChangesNothing : Obligations.IllegalWordIsAnsweredAndChangesNothing := by
  refine ⟨decode_error_iff_illegalNumber, rfl, rfl, fun s hslot hidle hillegal => ?_⟩
  obtain ⟨r, hdecode⟩ := (decode_error_iff_illegalNumber _).2 hillegal
  rw [step_of_host hslot, hostStep_of_idle (s := s.setEnv s.env.dropSlot) hidle]
  exact issueWord_of_error hdecode _

/-- Settles O36: such a number names no channel, and both reads answer as to an illegal word. -/
theorem channelOutsideOneAndTwoIsIllegal : Obligations.ChannelOutsideOneAndTwoIsIllegal := by
  intro s c _ hc
  have hnone : s.channelAt c = none :=
    (s.channelAt_eq_none c).2 (by simpa [legalChannel] using hc)
  constructor
  · rw [exec, execRdbtn, hnone]; rfl
  · rw [exec, execRdch, hnone]; rfl

end Sys2Proof.Machine
end

section
/-! PROOF. The count of operations issued and not abandoned: the issue of a word adds one, and the
ENGINE only turns the response owed into the response given (R10, R95). -/

namespace Sys2Proof.Machine

theorem State.issuedCount_of_idle {s : State} (h : s.dseq = .idle) :
    s.issuedCount = s.responses.length := by
  rw [State.issuedCount, (s.inFlight_eq_false).2 h]; rfl

theorem State.issuedCount_of_inFlight {s : State} (h : s.dseq ≠ .idle) :
    s.issuedCount = s.responses.length + 1 := by
  rw [State.issuedCount, (s.inFlight_eq_true).2 h]; rfl

@[simp] theorem State.issuedCount_setEnv (s : State) (e : Env) :
    (s.setEnv e).issuedCount = s.issuedCount := rfl

/-- The response owed is given: the operation counts as before (R95). -/
theorem State.issuedCount_of_answered {s t : State} {r : Response} (hs : s.dseq ≠ .idle)
    (ht : t.dseq = .idle) (hresp : t.responses = s.responses ++ [r]) :
    t.issuedCount = s.issuedCount := by
  rw [State.issuedCount_of_idle ht, State.issuedCount_of_inFlight hs, hresp, List.length_append]
  rfl

/-- The response stays owed: the operation counts as before. -/
theorem State.issuedCount_of_owed {s t : State} (hs : s.dseq ≠ .idle) (ht : t.dseq ≠ .idle)
    (hresp : t.responses = s.responses) : t.issuedCount = s.issuedCount := by
  rw [State.issuedCount_of_inFlight ht, State.issuedCount_of_inFlight hs, hresp]

/-- An accepted operation responds at once and leaves the port free, or takes the port and owes its
response (R10). -/
theorem exec_responds_or_owes {i : Instr} {s t : State} (h : exec i s = .next t) :
    (t.dseq = s.dseq ∧ t.responses.length = s.responses.length + 1) ∨
    (t.dseq ≠ .idle ∧ t.responses = s.responses) := by
  obtain ⟨_, _, rfl⟩ | ⟨-, rfl⟩ | ⟨-, rfl⟩ | ⟨-, rfl⟩ | ⟨_, _, rfl⟩ | ⟨_, -, rfl⟩ | ⟨-, rfl⟩ :=
    exec_cases h <;> simp

theorem exec_issuedCount {i : Instr} {s t : State} (h : exec i s = .next t) (hidle : s.dseq = .idle) :
    t.issuedCount = s.issuedCount + 1 := by
  rw [State.issuedCount_of_idle hidle]
  obtain ⟨hdseq, hresp⟩ | ⟨hdseq, hresp⟩ := exec_responds_or_owes h
  · rw [State.issuedCount_of_idle (hdseq.trans hidle), hresp]
  · rw [State.issuedCount_of_inFlight hdseq, hresp]

theorem State.raiseIllegal_issuedCount (s : State) :
    s.raiseIllegal.issuedCount = s.issuedCount + 1 := by
  rw [State.issuedCount, State.raiseIllegal_responses, List.length_append, Nat.add_right_comm]
  rfl

/-- An issued word counts, legal or not; a turn at which the port is taken issues none (R95, R96). -/
theorem hostStep_issuedCount {s t : State} (h : hostStep s = .next t) :
    (s.dseq ≠ .idle ∧ t.issuedCount = s.issuedCount) ∨
    (s.dseq = .idle ∧ t.issuedCount = s.issuedCount + 1) := by
  obtain ⟨hbusy, rfl⟩ | ⟨hidle, hissue⟩ := hostStep_cases h
  · exact .inl ⟨hbusy, rfl⟩
  · refine .inr ⟨hidle, ?_⟩
    obtain ⟨i, -, hexec⟩ | ⟨-, rfl⟩ := issueWord_cases hissue
    · exact exec_issuedCount (s := s.setEnv s.env.dropWord) hexec hidle
    · exact State.raiseIllegal_issuedCount _

/-- A micro-step keeps the port and responds nothing, or gives the response owed and frees the port. -/
theorem engineStep_issuedCount (s : State) : (engineStep s).issuedCount = s.issuedCount := by
  obtain ⟨-, h⟩ | ⟨hd, h⟩ | ⟨hd, h⟩ | ⟨hd, h⟩ | ⟨k, hk, hd, h⟩ | ⟨hd, h⟩ := engineStep_cases s
    <;> rw [h]
  · have hbusy : (pollStep s).dseq ≠ .idle := by
      obtain hpoll | hwrite := pollStep_dseq s <;> simp [*]
    exact State.issuedCount_of_owed (by simp [hd]) hbusy rfl
  · exact State.issuedCount_of_answered (by simp [hd]) rfl rfl
  · exact State.issuedCount_of_answered (by simp [hd]) rfl rfl
  · exact State.issuedCount_of_owed (by simp [hd]) (by simp) rfl
  · exact State.issuedCount_of_answered (by simp [hd]) rfl rfl

theorem sampleEvent_issuedCount {btn1 btn2 : Bool} {s t : State}
    (h : sampleEvent btn1 btn2 s = .next t) : t.issuedCount = s.issuedCount := by
  obtain ⟨-, rfl⟩ | ⟨-, -, -, rfl⟩ := sampleEvent_next h <;> rfl

/-- Settles O45: only the HOST's turn at a free port counts one more; RESET abandons without a response. -/
theorem everyOperationGetsOneResponse : Obligations.EveryOperationGetsOneResponse := by
  intro s t h
  obtain ⟨hslot, hh⟩ | ⟨hslot, rfl⟩ | ⟨_, _, hslot, hs⟩ | ⟨hslot, rfl⟩ | ⟨hslot, rfl⟩ := step_cases h
    <;> simp only [hslot]
  · obtain ⟨hbusy, hcount⟩ | ⟨hidle, hcount⟩ := hostStep_issuedCount hh
    · simpa [show s.dseq ≠ .idle from hbusy] using hcount
    · simpa [show s.dseq = .idle from hidle] using hcount
  · simpa using engineStep_issuedCount (s.setEnv s.env.dropSlot)
  · simpa using sampleEvent_issuedCount hs
  · exact ⟨fun _ => rfl, fun hne => by cases hne⟩
  · exact ⟨fun hne => absurd rfl hne, fun _ => rfl⟩

end Sys2Proof.Machine
end

section
/-! PROOF. No agent writes the command bytes (R101). -/

namespace Sys2Proof.Machine

theorem exec_commands {i : Instr} {s t : State} (h : exec i s = .next t) : t.commands = s.commands := by
  obtain ⟨_, _, rfl⟩ | ⟨-, rfl⟩ | ⟨-, rfl⟩ | ⟨-, rfl⟩ | ⟨_, _, rfl⟩ | ⟨_, -, rfl⟩ | ⟨-, rfl⟩ :=
    exec_cases h <;> rfl

theorem hostStep_commands {s t : State} (h : hostStep s = .next t) : t.commands = s.commands := by
  by_contra hne
  obtain ⟨-, i, u, -, hexec, hu⟩ :=
    hostStep_changes State.commands (fun _ _ => rfl) (fun _ => rfl) h hne
  exact hu (exec_commands hexec)

theorem engineStep_commands (s : State) : (engineStep s).commands = s.commands := by
  obtain ⟨-, h⟩ | ⟨-, h⟩ | ⟨-, h⟩ | ⟨-, h⟩ | ⟨k, hk, -, h⟩ | ⟨-, h⟩ := engineStep_cases s
    <;> rw [h] <;> rfl

theorem sampleEvent_commands {btn1 btn2 : Bool} {s t : State}
    (h : sampleEvent btn1 btn2 s = .next t) : t.commands = s.commands := by
  obtain ⟨-, rfl⟩ | ⟨-, -, -, rfl⟩ := sampleEvent_next h <;> rfl

/-- Settles O48: no agent writes the command bytes, RESET included. -/
theorem commandBytesAreParameters : Obligations.CommandBytesAreParameters := by
  refine ⟨rfl, fun s t h => ?_⟩
  obtain ⟨-, hh⟩ | ⟨-, rfl⟩ | ⟨_, _, -, hs⟩ | ⟨-, rfl⟩ | ⟨-, rfl⟩ := step_cases h
  · exact hostStep_commands (s := s.setEnv s.env.dropSlot) hh
  · exact engineStep_commands (s.setEnv s.env.dropSlot)
  · exact sampleEvent_commands (s := s.setEnv s.env.dropSlot) hs
  · rfl
  · rfl

end Sys2Proof.Machine
end

section
/-! PROOF. The four ENGINE micro-steps at the engine's turn, each as an equation between whole states
(R124, R125, R127, R130), and the issue of the four display operations (R121). -/

namespace Sys2Proof.Machine

theorem step_of_engine {s : State} (h : s.env.nextSlot = .engine) :
    step s = .next (engineStep (s.setEnv s.env.dropSlot)) := by
  rw [step, h, agentStep]

/-- INITSEQ appends the nine entries of R136's list, one at each INIT(k). -/
theorem initTrace_getElem? (c : CommandBytes) (k : Fin 9) :
    (initTrace c)[k.val]? = some (initEvent (initSeq c k)) := by
  fin_cases k <;> rfl

/-- Settles O12: the four arms of `exec`, and the turn of the blocked host. -/
theorem displayOperationIsIssued : Obligations.DisplayOperationIsIssued := by
  refine ⟨fun s _ => ⟨fun _ => rfl, fun _ => rfl, fun _ => rfl, rfl⟩, fun s hslot hbusy => ?_⟩
  rw [step_of_host hslot, hostStep_of_inFlight (s := s.setEnv s.env.dropSlot) hbusy]
  rfl

/-- Settles O13, by the POLL arm of `engineStep`. -/
theorem pollMicroStep : Obligations.PollMicroStep := by
  intro s hslot hpoll
  rw [step_of_engine hslot, engineStep_of_poll (s := s.setEnv s.env.dropSlot) hpoll]
  rfl

/-- Settles O14, by the WRITE arm of `engineStep`. -/
theorem writeMicroStep : Obligations.WriteMicroStep := by
  intro s hslot hwrite
  rw [step_of_engine hslot, engineStep_of_write (s := s.setEnv s.env.dropSlot) hwrite]
  rfl

/-- Settles O15: the zero-extended byte of the response is its number. -/
theorem readMicroStep : Obligations.ReadMicroStep := by
  intro s hslot hread
  rw [step_of_engine hslot, engineStep_of_read (s := s.setEnv s.env.dropSlot) hread, readStep,
    State.zext_eq_word]
  rfl

/-- Settles O16: before the last entry the engine goes on to INIT(k+1), after it to IDLE. -/
theorem initMicroStep : Obligations.InitMicroStep := by
  intro s k hslot hinit
  refine ⟨_, initTrace_getElem? s.commands k, fun hk => ⟨⟨k.val + 1, by omega⟩, rfl, ?_⟩, fun hk => ?_⟩
    <;> rw [step_of_engine hslot, engineStep_of_init (s := s.setEnv s.env.dropSlot) hinit]
  · rw [initStep_of_lt hk]
    rfl
  · obtain rfl : k = 8 := Fin.ext hk
    rw [initStep_last]
    rfl

end Sys2Proof.Machine
end

section
/-! PROOF. What each agent leaves alone: the engine keeps the registers of the other two units, only the
engine appends to BUSLOG, and only an issue or RESET writes DARG and DADDR (R120; log entry 18). -/

namespace Sys2Proof.Machine

theorem engineStep_debounceAndTick (s : State) :
    (engineStep s).debounceAndTick = s.debounceAndTick := by
  obtain ⟨h1, h2⟩ := engineStep_channels s
  obtain ⟨ht, hen⟩ := engineStep_tick_smpen s
  simp only [State.debounceAndTick, h1, h2, ht, hen]

/-- The issue of an operation makes no bus transaction (R121). -/
theorem exec_busLog {i : Instr} {s t : State} (h : exec i s = .next t) : t.busLog = s.busLog := by
  obtain ⟨_, _, rfl⟩ | ⟨-, rfl⟩ | ⟨-, rfl⟩ | ⟨-, rfl⟩ | ⟨_, _, rfl⟩ | ⟨_, -, rfl⟩ | ⟨-, rfl⟩ :=
    exec_cases h <;> rfl

theorem hostStep_busLog {s t : State} (h : hostStep s = .next t) : t.busLog = s.busLog := by
  by_contra hne
  obtain ⟨-, i, u, -, hexec, hu⟩ := hostStep_changes State.busLog (fun _ _ => rfl) (fun _ => rfl) h hne
  exact hu (exec_busLog hexec)

/-- The two registers that the issue of an operation hands to the engine (R31). -/
def State.operand (s : State) : Byte × BusAddr := (s.darg, s.daddr)

theorem State.operand_ne_iff {s t : State} :
    t.operand ≠ s.operand ↔ t.darg ≠ s.darg ∨ t.daddr ≠ s.daddr := by
  simp only [State.operand, ne_eq, Prod.mk.injEq, not_and_or]

/-- An operation that writes DARG or DADDR takes the port with POLL or READ (R121). -/
theorem exec_operand_writer {i : Instr} {s t : State} (h : exec i s = .next t)
    (hne : t.operand ≠ s.operand) : t.dseq = .poll ∨ t.dseq = .read := by
  obtain ⟨_, _, rfl⟩ | ⟨-, rfl⟩ | ⟨-, rfl⟩ | ⟨-, rfl⟩ | ⟨_, _, rfl⟩ | ⟨_, -, rfl⟩ | ⟨-, rfl⟩ :=
    exec_cases h
  case inr.inr.inr.inr.inl => exact .inl rfl
  case inr.inr.inr.inr.inr.inl => exact .inr rfl
  all_goals exact absurd rfl hne

theorem engineStep_operand (s : State) : (engineStep s).operand = s.operand := by
  obtain ⟨-, h⟩ | ⟨-, h⟩ | ⟨-, h⟩ | ⟨-, h⟩ | ⟨k, hk, -, h⟩ | ⟨-, h⟩ := engineStep_cases s
    <;> rw [h] <;> rfl

/-- The only agent that appends to BUSLOG is the engine, with an operation in flight (R120). -/
theorem step_busLog_writer {s t : State} (h : step s = .next t) (hne : t.busLog ≠ s.busLog) :
    s.env.nextSlot = .engine ∧ s.dseq ≠ .idle := by
  obtain ⟨-, hh⟩ | ⟨hslot, rfl⟩ | ⟨_, _, -, hs⟩ | ⟨-, rfl⟩ | ⟨-, rfl⟩ := step_cases h
  · exact absurd (hostStep_busLog (s := s.setEnv s.env.dropSlot) hh) hne
  · refine ⟨hslot, fun hidle => hne ?_⟩
    rw [engineStep_of_idle (s := s.setEnv s.env.dropSlot) hidle]
    rfl
  · obtain ⟨-, rfl⟩ | ⟨-, -, -, rfl⟩ := sampleEvent_next hs <;> exact absurd rfl hne
  · exact absurd rfl hne
  · exact absurd rfl hne

theorem step_operand_writer {s t : State} (h : step s = .next t) (hne : t.operand ≠ s.operand) :
    s.env.nextSlot = .reset ∨
      s.env.nextSlot = .host ∧ s.dseq = .idle ∧ (t.dseq = .poll ∨ t.dseq = .read) := by
  obtain ⟨hslot, hh⟩ | ⟨-, rfl⟩ | ⟨_, _, -, hs⟩ | ⟨-, rfl⟩ | ⟨hslot, -⟩ := step_cases h
  · obtain ⟨hidle, i, u, -, hexec, hu⟩ :=
      hostStep_changes (s := s.setEnv s.env.dropSlot) State.operand (fun _ _ => rfl) (fun _ => rfl) hh hne
    exact .inr ⟨hslot, hidle, exec_operand_writer hexec hu⟩
  · exact absurd (engineStep_operand (s.setEnv s.env.dropSlot)) hne
  · obtain ⟨-, rfl⟩ | ⟨-, -, -, rfl⟩ := sampleEvent_next hs <;> exact absurd rfl hne
  · exact absurd rfl hne
  · exact .inl hslot

/-- Settles O22: the engine's turn by its own lemmas, BUSLOG and the operand registers by their
writers. -/
theorem engineTouchesOnlyItsOwnState : Obligations.EngineTouchesOnlyItsOwnState := by
  refine fun s t h => ⟨fun hslot => ?_, fun hslot hidle => ?_, step_busLog_writer h,
    fun hne => step_operand_writer h (State.operand_ne_iff.2 hne)⟩
    <;> cases (step_of_engine hslot).symm.trans h
  · exact engineStep_debounceAndTick (s.setEnv s.env.dropSlot)
  · exact engineStep_of_idle (s := s.setEnv s.env.dropSlot) hidle

end Sys2Proof.Machine
end

section
/-! PROOF. Runs that interleave ENGINE micro-steps with SAMPLE and TICK events (R134). The two touch
disjoint parts of the state, so such a run is the micro-steps taken by themselves, with the registers
of the other two units put in as the events taken by themselves leave them. -/

namespace Sys2Proof.Machine

/-! ### The registers of the debounce filter and the tick counter, apart from the rest -/

/-- RAW, PREV, CNT and STABLE of both channels, SMPEN and TICK: the type of `State.debounceAndTick`. -/
abbrev EventRegisters := Channel × Channel × Bool × TickWord

/-- The state with other registers in the debounce filter and the tick counter. -/
def State.withRegisters (s : State) (p : EventRegisters) : State :=
  { s with ch1 := p.1, ch2 := p.2.1, smpen := p.2.2.1, tick := p.2.2.2 }

/-- What a slot does to those registers: a SAMPLE event while it is unmasked, and a TICK event (R160,
R190). -/
def registersAfter (p : EventRegisters) : Slot → EventRegisters
  | .sample btn1 btn2 =>
    if p.2.2.1 then (p.1.dbStep btn1, p.2.1.dbStep btn2, p.2.2) else p
  | .tick => (p.1, p.2.1, p.2.2.1, p.2.2.2.increment)
  | .host | .engine | .reset => p

variable {s : State} {p : EventRegisters} {slots : List Slot} {a : Slot}

@[simp] theorem State.withRegisters_debounceAndTick (s : State) (p : EventRegisters) :
    (s.withRegisters p).debounceAndTick = p := rfl

@[simp] theorem State.withRegisters_displayPart (s : State) (p : EventRegisters) :
    (s.withRegisters p).displayPart = s.displayPart := rfl

/-- A slot that is no periodic event leaves the registers alone. -/
theorem registersAfter_of_not_periodic (h : a.isPeriodic = false) : registersAfter p a = p := by
  cases a with
  | sample _ _ | tick => cases h
  | host | engine | reset => rfl

theorem registersAfter_sample_masked (h : p.2.2.1 = false) (btn1 btn2 : Bool) :
    registersAfter p (.sample btn1 btn2) = p :=
  if_neg (by simp [h])

theorem registersAfter_sample_unmasked (h : p.2.2.1 = true) (btn1 btn2 : Bool) :
    registersAfter p (.sample btn1 btn2) = (p.1.dbStep btn1, p.2.1.dbStep btn2, p.2.2) :=
  if_pos h

theorem registersAfter_width (p : EventRegisters) (a : Slot) :
    (registersAfter p a).2.2.2.width = p.2.2.2.width := by
  cases a with
  | sample btn1 btn2 => simp only [registersAfter]; split <;> rfl
  | host | engine | tick | reset => rfl

/-- SAMPLE events of an unmasked filter run each channel through its own levels, masked ones do nothing,
and every TICK event adds one. -/
theorem foldl_registersAfter (c1 c2 : Channel) (enabled : Bool) (t : TickWord)
    (slots : List Slot) :
    slots.foldl registersAfter (c1, c2, enabled, t) =
      (if enabled then c1.samples (levels1 slots) else c1,
        if enabled then c2.samples (levels2 slots) else c2,
        enabled, TickWord.increment^[slots.count .tick] t) := by
  induction slots generalizing c1 c2 t with
  | nil => cases enabled <;> rfl
  | cons a slots ih =>
    rw [List.foldl_cons]
    cases a with
    | sample btn1 btn2 =>
      cases enabled <;> simp [registersAfter, ih, levels1, levels2, Channel.samples]
    | tick | host | engine | reset => simp [registersAfter, ih, levels1, levels2]

/-- n increments of TICK add n, modulo 2^TICK_W (R195). -/
theorem State.increment_iterate_tick (s : State) (n : Nat) :
    TickWord.increment^[n] s.tick = s.word (s.tick.bits.toNat + n) := by
  have hiter : ∀ t : TickWord, TickWord.increment^[n] t = ⟨t.width, tickIncrement^[n] t.bits⟩ := by
    induction n with
    | zero => exact fun _ => rfl
    | succ n ih => exact fun t => ih t.increment
  rw [hiter, tickIncrement_iterate, State.word, BitVec.ofNat_add, BitVec.ofNat_toNat]
  exact congrArg (fun b => (⟨s.tick.width, b + _⟩ : TickWord)) (BitVec.setWidth_eq _).symm

/-- What the events of a schedule leave in the registers of a state: each channel has followed its own
levels if SMPEN = 1, and TICK has advanced by the number of TICK events (R160, R195). -/
theorem foldl_registersAfter_debounceAndTick (s : State) (slots : List Slot) :
    slots.foldl registersAfter s.debounceAndTick =
      (if s.smpen then s.ch1.samples (levels1 slots) else s.ch1,
        if s.smpen then s.ch2.samples (levels2 slots) else s.ch2,
        s.smpen, s.word (s.tick.bits.toNat + slots.count .tick)) := by
  rw [State.debounceAndTick, foldl_registersAfter, State.increment_iterate_tick]

/-! ### The engine and the events, side by side -/

theorem State.respondZero_withRegisters (h : p.2.2.2.width = s.tick.width) :
    (s.withRegisters p).respondZero = s.respondZero.withRegisters p :=
  congrArg (fun v => (s.respondOk v).withRegisters p) (State.word_congr h 0)

/-- The engine reads of the other units only TICK_W, the width of its responses (R95). -/
theorem engineStep_withRegisters (h : p.2.2.2.width = s.tick.width) :
    engineStep (s.withRegisters p) = (engineStep s).withRegisters p := by
  rcases hd : s.dseq with _ | _ | _ | _ | k
  · rw [engineStep_of_idle hd, engineStep_of_idle (s := s.withRegisters p) hd]
  · rw [engineStep_of_poll hd, engineStep_of_poll (s := s.withRegisters p) hd]
    rfl
  · rw [engineStep_of_write hd, engineStep_of_write (s := s.withRegisters p) hd]
    exact State.respondZero_withRegisters (s := (s.memWrite s.daddr s.darg).setDseq .idle) h
  · rw [engineStep_of_read hd, engineStep_of_read (s := s.withRegisters p) hd, readStep, readStep,
      State.zext_eq_word, State.zext_eq_word, State.word_congr h]
    rfl
  · rw [engineStep_of_init hd, engineStep_of_init (s := s.withRegisters p) hd]
    by_cases hk : k.val < 8
    · rw [initStep_of_lt hk, initStep_of_lt hk]
      rfl
    · obtain rfl : k = 8 := Fin.ext (by simp; omega)
      rw [initStep_last, initStep_last]
      exact State.respondZero_withRegisters
        (s := (s.appendLog (initEvent (initSeq s.commands 8))).setDseq .idle) h

theorem engineStep_iterate_withRegisters (h : p.2.2.2.width = s.tick.width) (n : Nat) :
    engineStep^[n] (s.withRegisters p) = (engineStep^[n] s).withRegisters p := by
  induction n generalizing s with
  | zero => rfl
  | succ n ih =>
    have hwidth : p.2.2.2.width = (engineStep s).tick.width := by rw [(engineStep_tick_smpen s).1, h]
    rw [Function.iterate_succ_apply, Function.iterate_succ_apply, engineStep_withRegisters h, ih hwidth]

theorem Channel.Inv.inRange {ch : Channel} (h : ch.Inv) : ch.inRange = true :=
  decide_eq_true (Nat.lt_of_le_pred (by decide) h.1)

theorem sampleEvent_of_masked (h : s.smpen = false) (btn1 btn2 : Bool) :
    sampleEvent btn1 btn2 s = .next s := by
  simp [sampleEvent, h]

theorem sampleEvent_of_unmasked (h : s.smpen = true) (hinv : s.Inv) (btn1 btn2 : Bool) :
    sampleEvent btn1 btn2 s
      = .next (s.setChannels (s.ch1.dbStep btn1) (s.ch2.dbStep btn2)) := by
  simp [sampleEvent, h, hinv.1.inRange, hinv.2.inRange]

/-- A periodic event is never refused in a state that meets R25, and does to its registers what it does
to them alone (R160, R190). -/
theorem agentStep_of_periodic (h : a.isPeriodic = true) (hinv : s.Inv) :
    agentStep a s = .next (s.withRegisters (registersAfter s.debounceAndTick a)) := by
  cases a with
  | sample btn1 btn2 =>
    cases hen : s.smpen
    · rw [registersAfter_sample_masked (p := s.debounceAndTick) hen]
      exact sampleEvent_of_masked hen btn1 btn2
    · rw [registersAfter_sample_unmasked (p := s.debounceAndTick) hen]
      exact sampleEvent_of_unmasked hen hinv btn1 btn2
  | tick => rfl
  | host | engine | reset => cases h

theorem State.Inv.withRegisters_registersAfter (hinv : s.Inv) (a : Slot) :
    (s.withRegisters (registersAfter s.debounceAndTick a)).Inv := by
  cases a with
  | sample btn1 btn2 =>
    simp only [registersAfter]
    split
    · exact ⟨Channel.dbStep_inv hinv.1.inRange btn1, Channel.dbStep_inv hinv.2.inRange btn2⟩
    · exact hinv
  | host | engine | tick | reset => exact hinv

theorem State.Inv.engineStep (hinv : s.Inv) : (engineStep s).Inv := by
  obtain ⟨h1, h2⟩ := engineStep_channels s
  rwa [State.Inv, h1, h2]

/-- At every turn of the HOST in the schedule an operation is in flight, however far the engine has come
by then: the turn passes (R10, R32; log entry 2). -/
def State.BlocksHost (s : State) (slots : List Slot) : Prop :=
  .host ∈ slots → ∀ n ≤ slots.count .engine, (engineStep^[n] s).dseq ≠ .idle

theorem State.BlocksHost.engineStep (h : s.BlocksHost (.engine :: slots)) :
    (engineStep s).BlocksHost slots :=
  fun hmem n hn => h (.tail _ hmem) (n + 1) (by simpa using hn)

theorem State.BlocksHost.of_cons (h : s.BlocksHost (a :: slots)) : s.BlocksHost slots :=
  fun hmem n hn => h (.tail _ hmem) n (hn.trans List.count_le_count_cons)

theorem State.BlocksHost.withRegisters (h : s.BlocksHost slots) (hp : p.2.2.2.width = s.tick.width) :
    (s.withRegisters p).BlocksHost slots := by
  intro hmem n hn
  rw [engineStep_iterate_withRegisters hp]
  exact h hmem n hn

/-- A run without RESET, and with turns of the HOST only while an operation is in flight, is its ENGINE
micro-steps taken alone, with the registers that its events taken alone leave (R134; log entry 2). -/
theorem runSlots_interleaved (hinv : s.Inv) (hreset : .reset ∉ slots) (hhost : s.BlocksHost slots) :
    runSlots slots s = .next ((engineStep^[slots.count .engine] s).withRegisters
      (slots.foldl registersAfter s.debounceAndTick)) := by
  induction slots generalizing s with
  | nil => rfl
  | cons a slots ih =>
    have hrest : .reset ∉ slots := fun hmem => hreset (.tail _ hmem)
    have hevent (hp : a.isPeriodic = true) (hne : a ≠ .engine) :
        runSlots (a :: slots) s = .next ((engineStep^[(a :: slots).count .engine] s).withRegisters
          ((a :: slots).foldl registersAfter s.debounceAndTick)) := by
      have hwidth := registersAfter_width s.debounceAndTick a
      rw [runSlots_cons_of_next (agentStep_of_periodic hp hinv),
        ih (hinv.withRegisters_registersAfter a) hrest (hhost.of_cons.withRegisters hwidth),
        engineStep_iterate_withRegisters hwidth, List.count_cons_of_ne hne]
      rfl
    cases a with
    | host =>
      have hbusy : s.dseq ≠ .idle := hhost (.head _) 0 (Nat.zero_le _)
      rw [runSlots_cons_of_next (a := .host) (hostStep_of_inFlight hbusy),
        ih hinv hrest hhost.of_cons]
      rfl
    | engine =>
      rw [runSlots_cons_of_next (a := .engine) rfl, ih hinv.engineStep hrest hhost.engineStep,
        engineStep_debounceAndTick, List.count_cons_self]
      rfl
    | sample btn1 btn2 => exact hevent rfl (by simp)
    | tick => exact hevent rfl (by simp)
    | reset => exact absurd (.head _) hreset

theorem foldl_registersAfter_filter_periodic (slots : List Slot) (p : EventRegisters) :
    (slots.filter Slot.isPeriodic).foldl registersAfter p = slots.foldl registersAfter p := by
  rw [List.foldl_filter]
  refine List.foldl_ext _ _ _ fun q a _ => ?_
  cases h : a.isPeriodic
  · exact (registersAfter_of_not_periodic h).symm
  · rfl

theorem count_engine_filter_not_periodic (slots : List Slot) :
    (slots.filter fun a => !a.isPeriodic).count .engine = slots.count .engine :=
  List.count_filter rfl

/-- Settles O24: the run and its two parts by the one lemma; the events are the same in the run and in
its first part, the micro-steps the same in the run and in its second. -/
theorem engineAndEventsDoNotInterfere : Obligations.EngineAndEventsDoNotInterfere := by
  intro slots s hinv hhost hreset
  have hrun (keep : Slot → Bool) := runSlots_interleaved (slots := slots.filter keep) hinv
    (fun hmem => hreset (List.mem_filter.1 hmem).1)
    (fun hmem => absurd (List.mem_filter.1 hmem).1 hhost)
  refine ⟨_, _, _, runSlots_interleaved hinv hreset fun hmem => absurd hmem hhost,
    hrun Slot.isPeriodic, hrun fun a => !a.isPeriodic, ?_, ?_⟩
  · simp only [State.withRegisters_debounceAndTick, foldl_registersAfter_filter_periodic]
  · simp only [State.withRegisters_displayPart, count_engine_filter_not_periodic]

end Sys2Proof.Machine
end

section
/-! PROOF. Whole display operations: the issue, and then the engine's micro-steps (R122, R123, R126). -/

namespace Sys2Proof.Machine

variable {s u : State}

/-- The chosen schedule of a state, used up by a run of its length: `runFollowsTheChosenSchedule` with the
schedule that is left said by `withSlots`. -/
theorem runSteps_of_slots {slots rest : List Slot} (h : s.env.slots = slots ++ rest) :
    runSteps slots.length s = runSlots slots (s.withSlots rest) :=
  runFollowsTheChosenSchedule slots rest s h

theorem runSlots_replicate_engine (n : Nat) (s : State) :
    runSlots (List.replicate n .engine) s = .next (engineStep^[n] s) := by
  induction n generalizing s with
  | zero => rfl
  | succ n ih => exact (runSlots_cons_of_next rfl _).trans (ih _)

/-- The state with other words for the host to come. -/
def State.withWords (s : State) (words : List OpWord) : State :=
  s.setEnv { s.env with words := words }

/-- The HOST's turn at a free port, when its next word is that of the operation i (R10). -/
theorem hostStep_encode {i : Instr} {words : List OpWord} (hidle : s.dseq = .idle)
    (hwf : i.wellFormed = true) (hwords : s.env.words = encode i :: words) :
    hostStep s = exec i (s.withWords words) := by
  rw [hostStep_of_idle hidle, Env.nextWord_of_cons _ hwords, Env.dropWord_of_cons _ hwords,
    issueWord_of_ok (decodeOfEncodeIsTheOperation i hwf), State.withWords]

/-- An operation that its micro-steps follow at once: its issue, and the micro-steps alone. -/
theorem runSlots_operationSlots {i : Instr} {words : List OpWord} (n : Nat) (hidle : s.dseq = .idle)
    (hwf : i.wellFormed = true) (hwords : s.env.words = encode i :: words)
    (hexec : exec i (s.withWords words) = .next u) :
    runSlots (operationSlots n) s = .next (engineStep^[n] u) := by
  have hissue : agentStep .host s = .next u := (hostStep_encode hidle hwf hwords).trans hexec
  rw [operationSlots, runSlots_cons_of_next hissue, runSlots_replicate_engine]

@[simp] theorem operationSlots_length (n : Nat) : (operationSlots n).length = n + 1 := by
  simp [operationSlots]

/-! ### Polls -/

/-- The state after status reads that were answered with the bytes `reads`, with the answers `left` to
come. -/
def State.polled (s : State) (reads left : List Byte) : State :=
  { s with busLog := s.busLog ++ reads.map (.rd 0), env := { s.env with answers := left } }

theorem State.polled_nil {answers : List Byte} (h : s.env.answers = answers) :
    s.polled [] answers = s := by
  subst h
  simp [State.polled]

theorem State.polled_polled (reads reads' left left' : List Byte) :
    (s.polled reads left).polled reads' left' = s.polled (reads ++ reads') left' := by
  simp [State.polled]

/-- The POLL micro-step on a chosen answer (R124). -/
theorem pollStep_of_cons {b : Byte} {answers : List Byte} (h : s.env.answers = b :: answers) :
    pollStep s = (s.polled [b] answers).setDseq (if b.getLsbD 7 then .poll else .write) := by
  rw [pollStep, State.memRead, State.readValue, Env.nextAnswer_of_cons _ h, Env.dropAnswer_of_cons _ h]
  rfl

/-- While the answers are busy the engine polls, and does nothing else (R124, R133). -/
theorem engineStep_iterate_busy {busy answers : List Byte} (hpoll : s.dseq = .poll)
    (hbusy : ∀ b ∈ busy, b.getLsbD 7 = true) (hanswers : s.env.answers = busy ++ answers) :
    engineStep^[busy.length] s = s.polled busy answers := by
  induction busy generalizing s with
  | nil => exact (State.polled_nil hanswers).symm
  | cons b busy ih =>
    obtain ⟨hb, hbusy⟩ := List.forall_mem_cons.1 hbusy
    have hstep : engineStep s = s.polled [b] (busy ++ answers) := by
      rw [engineStep_of_poll hpoll, pollStep_of_cons hanswers, if_pos hb, ← hpoll]
      rfl
    rw [List.length_cons, Function.iterate_succ_apply, hstep,
      ih (s := s.polled [b] (busy ++ answers)) hpoll hbusy rfl, State.polled_polled]
    rfl

/-- The micro-steps of WRCMD and WRDATA: busy polls, the poll that finds the device ready, and the one
write (R122, R123). -/
theorem engineStep_iterate_write {busy answers : List Byte} {clear : Byte} (hpoll : s.dseq = .poll)
    (hbusy : ∀ b ∈ busy, b.getLsbD 7 = true) (hclear : clear.getLsbD 7 = false)
    (hanswers : s.env.answers = busy ++ clear :: answers) :
    engineStep^[busy.length + 2] s = { s with
      busLog := s.busLog ++ busy.map (.rd 0) ++ [.rd 0 clear, .wr s.daddr s.darg]
      dseq := .idle
      responses := s.responses ++ [⟨.ok, s.word 0⟩]
      env := { s.env with answers := answers } } := by
  have hready : engineStep (s.polled busy (clear :: answers))
      = (s.polled (busy ++ [clear]) answers).setDseq .write := by
    rw [engineStep_of_poll (s := s.polled busy (clear :: answers)) hpoll, pollStep_of_cons rfl, hclear,
      State.polled_polled]
    rfl
  rw [Function.iterate_succ_apply', Function.iterate_succ_apply',
    engineStep_iterate_busy hpoll hbusy hanswers, hready, engineStep_of_write rfl]
  simp [writeStep, State.polled, State.memWrite, State.respondZero, State.respondOk, State.respond,
    State.appendLog, State.setDseq, State.word, State.tickW]

/-- The micro-step of RDSTAT on a chosen answer (R127). -/
theorem readStep_of_cons {b : Byte} {answers : List Byte} (h : s.env.answers = b :: answers) :
    readStep s = { s with
      busLog := s.busLog ++ [.rd s.daddr b]
      dseq := .idle
      responses := s.responses ++ [⟨.ok, s.word b.toNat⟩]
      env := { s.env with answers := answers } } := by
  rw [readStep, State.zext_eq_word, State.memRead, State.readValue, Env.nextAnswer_of_cons _ h,
    Env.dropAnswer_of_cons _ h]
  rfl

/-! ### The operations -/

/-- The state after a whole WRCMD or WRDATA: the operand v and the address a are where the issue put them,
the device answered `busy` and then `clear`, and the one write has been made and answered (R122, R123). -/
def State.afterWrite (s : State) (a : BusAddr) (v : Byte) (busy : List Byte) (clear : Byte)
    (words : List OpWord) (answers : List Byte) : State :=
  { s with
    darg := v, daddr := a
    busLog := s.busLog ++ busy.map (.rd 0) ++ [.rd 0 clear, .wr a v]
    responses := s.responses ++ [⟨.ok, s.word 0⟩]
    env := { s.env with words := words, answers := answers } }

/-- WRCMD or WRDATA, whole: the operation i that is issued with the address a and the byte v. -/
theorem runSlots_writeOperation {i : Instr} {a : BusAddr} {v clear : Byte} {busy answers : List Byte}
    {words : List OpWord} (hidle : s.dseq = .idle) (hwf : i.wellFormed = true)
    (hissue : ∀ t, exec i t = .next (t.issueWrite a v)) (hbusy : ∀ b ∈ busy, b.getLsbD 7 = true)
    (hclear : clear.getLsbD 7 = false) (hwords : s.env.words = encode i :: words)
    (hanswers : s.env.answers = busy ++ clear :: answers) :
    runSlots (operationSlots (busy.length + 2)) s
      = .next (s.afterWrite a v busy clear words answers) := by
  have hwrite := engineStep_iterate_write (s := (s.withWords words).issueWrite a v) rfl hbusy hclear
    hanswers
  rw [runSlots_operationSlots _ hidle hwf hwords (hissue _), hwrite, ← hidle]
  rfl

/-- RDSTAT, whole. -/
theorem runSlots_statusRead {a : BusAddr} {b : Byte} {answers : List Byte} {words : List OpWord}
    (hidle : s.dseq = .idle) (hwords : s.env.words = encode (.rdstat a) :: words)
    (hanswers : s.env.answers = b :: answers) :
    runSlots (operationSlots 1) s = .next { s with
      daddr := a
      busLog := s.busLog ++ [.rd a b]
      responses := s.responses ++ [⟨.ok, s.word b.toNat⟩]
      env := { s.env with words := words, answers := answers } } := by
  have hread := readStep_of_cons (s := ((s.withWords words).setDaddr a).setDseq .read) hanswers
  rw [runSlots_operationSlots 1 hidle rfl hwords rfl, Function.iterate_one, engineStep_of_read rfl,
    hread, ← hidle]
  rfl

/-- Settles O17: the schedule is that of the one operation, WRCMD or WRDATA. -/
theorem writeOperationPollsThenWritesOnce : Obligations.WriteOperationPollsThenWritesOnce := by
  intro s v clear busy answers slots words hidle hbusy hclear hslots hanswers
  have hrun := runSteps_of_slots hslots
  rw [operationSlots_length] at hrun
  exact ⟨
    fun hwords => hrun.trans <| runSlots_writeOperation (s := s.withSlots slots) (i := .wrcmd v) hidle rfl
      (fun _ => rfl) hbusy hclear hwords hanswers,
    fun hwords => hrun.trans <| runSlots_writeOperation (s := s.withSlots slots) (i := .wrdata v) hidle rfl
      (fun _ => rfl) hbusy hclear hwords hanswers⟩

/-- A byte is the same number in every legal TICK_W (R95, R193). -/
theorem State.word_byte_toNat (h : s.legalTickW) (b : Byte) : (s.word b.toNat).bits.toNat = b.toNat := by
  have hwide : 2 ^ 8 ≤ 2 ^ s.tick.width := Nat.pow_le_pow_right (by decide) (Nat.le_trans (by decide) h)
  rw [State.word_toNat, Nat.mod_eq_of_lt (Nat.lt_of_lt_of_le b.isLt hwide)]

/-- Settles O18: the schedule is that of one RDSTAT. -/
theorem statusReadIsOneBusRead : Obligations.StatusReadIsOneBusRead := by
  intro s a b answers slots words hidle hslots hwords hanswers
  exact ⟨(runSteps_of_slots hslots).trans
      (runSlots_statusRead (s := s.withSlots slots) hidle hwords hanswers),
    fun hlegal => State.word_byte_toNat hlegal b⟩

end Sys2Proof.Machine
end

section
/-! PROOF. A string and the cursor: WRSTR on a device that is never busy, and the reference device that
follows it (R70, R131, R137). -/

namespace Sys2Proof.Machine

variable {s : State}

/-- What WRSTR appends to BUSLOG: for each character a status read and the data write (R131). -/
def stringLog (polls chars : List Byte) : List BusEvent :=
  (List.zipWith (fun p c => [BusEvent.rd 0 p, .wr 1 c]) polls chars).flatten

@[simp] theorem stringLog_nil : stringLog [] [] = [] := rfl

@[simp] theorem stringLog_cons (p c : Byte) (polls chars : List Byte) :
    stringLog (p :: polls) (c :: chars) = .rd 0 p :: .wr 1 c :: stringLog polls chars := rfl

/-- WRSTR is its WRDATA operations in order, one status read and one response each. -/
theorem runSlots_wrstr {chars polls answers : List Byte} {words : List OpWord} (hidle : s.dseq = .idle)
    (hlen : polls.length = chars.length) (hready : ∀ p ∈ polls, p.getLsbD 7 = false)
    (hwords : s.env.words = (wrstr chars).map encode ++ words)
    (hanswers : s.env.answers = polls ++ answers) :
    ∃ t, runSlots (chars.flatMap fun _ => operationSlots 2) s = .next t ∧ t.dseq = .idle ∧
      t.tick = s.tick ∧ t.env.words = words ∧ t.env.answers = answers ∧
      t.busLog = s.busLog ++ stringLog polls chars ∧
      t.responses = s.responses ++ List.replicate chars.length ⟨.ok, s.word 0⟩ := by
  induction chars generalizing s polls with
  | nil =>
    obtain rfl := List.length_eq_zero_iff.1 hlen
    exact ⟨s, rfl, hidle, rfl, hwords, hanswers, by simp, by simp⟩
  | cons c chars ih =>
    obtain ⟨p, polls, rfl⟩ := List.exists_cons_of_length_eq_add_one hlen
    obtain ⟨hp, hready⟩ := List.forall_mem_cons.1 hready
    have hchar := runSlots_writeOperation (busy := []) (i := .wrdata c) hidle rfl (fun _ => rfl)
      (List.forall_mem_nil _) hp hwords hanswers
    obtain ⟨t, hrun, htidle, htick, htwords, htanswers, hlog, hresp⟩ :=
      ih (s := s.afterWrite 1 c [] p ((wrstr chars).map encode ++ words) (polls ++ answers))
        hidle (by simpa using hlen) hready rfl rfl
    refine ⟨t, (runSlots_append_of_next hchar _).trans hrun, htidle, htick, htwords, htanswers, ?_, ?_⟩
    · simp [hlog, State.afterWrite]
    · simp [hresp, State.afterWrite, List.replicate_succ, State.word, State.tickW]

/-! ### The reference device over a stretch of BUSLOG -/

theorem RefDevice.replay_cons {d d' : RefDevice} {c : CommandBytes} {e : BusEvent} {log : List BusEvent} :
    d.replay c (e :: log) = some d' ↔ ∃ d₁, d.onEvent c e = some d₁ ∧ d₁.replay c log = some d' := by
  rw [RefDevice.replay]
  cases d.onEvent c e <;> simp

/-- A status read that the device accepts is answered with AC, and leaves the device as it was. -/
theorem RefDevice.onEvent_rd_cmd {d d' : RefDevice} {c : CommandBytes} {v : Byte}
    (h : d.onEvent c (.rd 0 v) = some d') : d' = d ∧ v.toNat % 128 = d.ac % 128 := by
  have hd : d' = d := by
    simp only [RefDevice.onEvent] at h
    split at h <;> cases h
    rfl
  exact ⟨hd, (d.onEvent_rd_cmd_iff c v).1 (hd ▸ h)⟩

/-- A device that accepts the string has its cursor moved on by one for each character, modulo
DISP_SPAN. -/
theorem RefDevice.replay_stringLog {d d' : RefDevice} {c : CommandBytes} {polls chars : List Byte}
    {log : List BusEvent} (hlen : polls.length = chars.length) (hac : d.ac < d.span)
    (h : d.replay c (stringLog polls chars ++ log) = some d') :
    RefDevice.replay { d with ac := (d.ac + chars.length) % d.span } c log = some d' := by
  induction chars generalizing d polls with
  | nil =>
    obtain rfl := List.length_eq_zero_iff.1 hlen
    simpa [Nat.mod_eq_of_lt hac] using h
  | cons ch chars ih =>
    obtain ⟨p, polls, rfl⟩ := List.exists_cons_of_length_eq_add_one hlen
    obtain ⟨d₁, hpoll, hrest⟩ := RefDevice.replay_cons.1 h
    obtain ⟨rfl, -⟩ := RefDevice.onEvent_rd_cmd hpoll
    obtain ⟨d₂, hwrite, hrest⟩ := RefDevice.replay_cons.1 hrest
    cases (RefDevice.onEvent_wr_data _ _ _).symm.trans hwrite
    have hmoved := ih (by simpa using hlen) (Nat.mod_lt _ (Nat.zero_lt_of_lt hac)) hrest
    simpa [Nat.add_assoc, Nat.add_comm 1] using hmoved

/-- Settles O21: the string by its characters, then the final status read; the device that gave the
answers has moved its cursor with the characters, and the last answer is that cursor. -/
theorem stringThenStatusGivesTheCursor : Obligations.StringThenStatusGivesTheCursor := by
  intro s chars polls answers b slots words hidle hlen hready hslots hwords hanswers
  rw [List.map_append, List.append_assoc] at hwords
  obtain ⟨t, hrun, htidle, htick, htwords, htanswers, hlog, hresp⟩ :=
    runSlots_wrstr (s := s.withSlots slots) hidle hlen hready hwords hanswers
  have hread := runSlots_statusRead htidle htwords htanswers
  rw [← List.append_assoc] at hslots
  have hsteps := runSteps_of_slots hslots
  have hlength : (chars.flatMap (fun _ => operationSlots 2) ++ operationSlots 1).length
      = 3 * chars.length + 2 := by
    simp [List.length_flatMap, Nat.mul_comm]
  rw [hlength, runSlots_append_of_next hrun, hread] at hsteps
  refine ⟨_, _, hsteps, rfl, ?_, htidle, ?_, fun d d' _ hspan hac hreplay => ?_⟩
  · exact (congrArg (· ++ [.rd 0 b]) hlog).trans (List.append_assoc _ _ _)
  · rw [hresp, State.word_congr (congrArg TickWord.width htick)]
    rfl
  · have hlast := RefDevice.replay_stringLog hlen hac hreplay
    obtain ⟨_, hb, -⟩ := RefDevice.replay_cons.1 hlast
    have hcursor : b.toNat % 128 = (d.ac + chars.length) % d.span % 128 :=
      (RefDevice.onEvent_rd_cmd hb).2
    have hlt : (d.ac + chars.length) % d.span < d.span := Nat.mod_lt _ (Nat.zero_lt_of_lt hac)
    omega

end Sys2Proof.Machine
end

section
/-! PROOF. Runs with an operation in flight: INIT among events and turns of the blocked host, and the stall
of a write on a device that stays busy (R128, R133, R136, R213). -/

namespace Sys2Proof.Machine

variable {s : State} {slots : List Slot}

/-! ### INIT -/

/-- The first n micro-steps of INIT append the first n entries of INITSEQ (R130). -/
theorem engineStep_iterate_init (h : s.dseq = .init 0) (n : Nat) (hn : n ≤ 8) :
    engineStep^[n] s = { s with
      busLog := s.busLog ++ (initTrace s.commands).take n
      dseq := .init ⟨n, Nat.lt_succ_of_le hn⟩ } := by
  induction n with
  | zero => simp [← h]
  | succ n ih =>
    have hlt : n < 8 := hn
    rw [Function.iterate_succ_apply', ih hlt.le, engineStep_of_init rfl, initStep_of_lt hlt,
      List.take_add_one, initTrace_getElem? s.commands ⟨n, Nat.lt_succ_of_le hlt.le⟩,
      ← List.append_assoc]
    rfl

/-- All nine: INIT, whole (R128). -/
theorem engineStep_iterate_init_nine (h : s.dseq = .init 0) :
    engineStep^[9] s = { s with
      busLog := s.busLog ++ initTrace s.commands
      dseq := .idle
      responses := s.responses ++ [⟨.ok, s.word 0⟩] } := by
  have htrace : initTrace s.commands
      = (initTrace s.commands).take 8 ++ [initEvent (initSeq s.commands 8)] := rfl
  rw [Function.iterate_succ_apply', engineStep_iterate_init h 8 le_rfl, engineStep_of_init (k := 8) rfl,
    initStep_last, htrace, ← List.append_assoc]
  rfl

/-- INIT after its issue, among events and turns of the blocked host: its nine micro-steps, and the
registers that the events leave (R136; log entry 2). -/
theorem runSlots_init (hinv : s.Inv) (hinit : s.dseq = .init 0) (hcount : slots.count .engine = 8)
    (hreset : .reset ∉ slots) :
    runSlots (slots ++ [.engine]) s = .next (State.withRegisters { s with
      busLog := s.busLog ++ initTrace s.commands
      dseq := .idle
      responses := s.responses ++ [⟨.ok, s.word 0⟩] }
        (slots.foldl registersAfter s.debounceAndTick)) := by
  have hhost : s.BlocksHost slots := fun _ n hn => by
    rw [engineStep_iterate_init hinit n (hcount ▸ hn)]
    exact nofun
  have hwidth : (slots.foldl registersAfter s.debounceAndTick).2.2.2.width
      = (engineStep^[8] s).tick.width := by
    rw [foldl_registersAfter_debounceAndTick, engineStep_iterate_init hinit 8 le_rfl]
    rfl
  rw [runSlots_append_of_next (runSlots_interleaved hinv hreset hhost), hcount,
    runSlots_cons_of_next (a := .engine) rfl, engineStep_withRegisters hwidth,
    ← Function.iterate_succ_apply' engineStep 8 s, engineStep_iterate_init_nine hinit]
  rfl

/-- Settles O19: the issue of INIT at the first turn, and then INIT among the events. -/
theorem initEmitsItsNineEntries : Obligations.InitEmitsItsNineEntries := by
  intro s slots rest words hinv hidle hwords hslots hcount hreset
  have hchosen : s.env.slots = (.host :: (slots ++ [.engine])) ++ rest := by simp [hslots]
  have hissue : agentStep .host (s.withSlots rest)
      = .next (((s.withSlots rest).withWords words).setDseq (.init 0)) :=
    hostStep_encode (s := s.withSlots rest) (i := .init) hidle rfl hwords
  have hrun := runSlots_init (s := ((s.withSlots rest).withWords words).setDseq (.init 0)) hinv rfl
    hcount hreset
  have hsteps := (runSteps_of_slots hchosen).trans ((runSlots_cons_of_next hissue _).trans hrun)
  rw [List.length_cons, List.length_append, foldl_registersAfter_debounceAndTick] at hsteps
  exact ⟨_, hsteps, rfl, rfl, rfl, rfl, rfl, rfl, rfl⟩

/-! ### A device that stays busy -/

/-- Settles O20: for every number of micro-steps that the schedule gives the engine, they are busy polls. -/
theorem busyDeviceStallsTheHost : Obligations.BusyDeviceStallsTheHost := by
  intro s slots rest hinv hpoll hslots hreset hlen hbusy
  have hpolls (n : Nat) (hn : n ≤ slots.count .engine) : engineStep^[n] (s.withSlots rest)
      = (s.withSlots rest).polled (s.env.answers.take n) (s.env.answers.drop n) := by
    have h := engineStep_iterate_busy (s := s.withSlots rest) hpoll
      (fun b hb => hbusy b (List.take_subset_take_left _ hn hb)) (List.take_append_drop n _).symm
    rwa [List.length_take_of_le (hn.trans hlen)] at h
  have hrun := runSlots_interleaved (s := s.withSlots rest) hinv hreset fun _ n hn => by
    rw [hpolls n hn]
    exact ne_of_eq_of_ne hpoll (by decide)
  rw [hpolls _ le_rfl, foldl_registersAfter_debounceAndTick] at hrun
  exact ⟨_, (runSteps_of_slots hslots).trans hrun, hpoll, rfl, rfl, rfl, rfl, rfl, rfl, rfl,
    fun hen => ⟨if_pos hen, if_pos hen⟩,
    fun hmasked => ⟨if_neg (ne_true_of_eq_false hmasked), if_neg (ne_true_of_eq_false hmasked)⟩⟩

end Sys2Proof.Machine
end

section
/-! PROOF. DBSTEP and the SAMPLE event: which sample commits, and what an unmasked, a masked and a refused
event do (R160, R161, R171). -/

namespace Sys2Proof.Machine

variable {s : State} {ch : Channel} {current : Bool}

theorem Channel.commits_iff_agreements :
    ch.commits current = true ↔ ch.agreements current = 10 := by
  simp only [Channel.commits, beq_iff_eq, Config.dbThresh]

/-- A commit is the tenth agreement in a row, never a disagreement (R161). -/
theorem Channel.commits_iff :
    ch.commits current = true ↔ current = ch.prev ∧ ch.cnt.toNat = 9 := by
  rw [Channel.commits_iff_agreements]
  by_cases h : current = ch.prev
  · rw [Channel.agreements_of_agree h]
    simp [h]
  · simp [Channel.agreements_of_disagree h, h]

theorem Channel.commits_eq_false_of_disagree (h : current ≠ ch.prev) : ch.commits current = false :=
  Bool.eq_false_iff.2 fun hc => h (Channel.agree_of_commits hc)

theorem Channel.inRange_iff : ch.inRange = true ↔ ch.cnt.toNat ≤ 9 := by
  simp [Channel.inRange, Config.dbThresh, Nat.lt_succ_iff]

/-- The count after step 2 fits in CNT: it never wraps (R161). -/
theorem Channel.toNat_ofNat_agreements (h : ch.cnt.toNat ≤ 9) :
    (BitVec.ofNat 4 (ch.agreements current)).toNat = ch.agreements current :=
  (BitVec.toNat_ofNat _ _).trans <| Nat.mod_eq_of_lt <|
    (Channel.agreements_le (Channel.inRange_iff.2 h) current).trans_lt (by decide)

/-- Settles O26: the statement's `count` is `Channel.agreements`, and a commit is its being 10. -/
theorem debounceStep : Obligations.DebounceStep := by
  rintro ch current _ hcnt rfl
  change _ ∧ _ ∧ (ch.agreements current = 10 → _) ∧ (ch.agreements current ≠ 10 → _)
  obtain ⟨hyes, heq⟩ | ⟨hno, heq⟩ := ch.dbStep_cases current <;> rw [heq]
  · have hten : ch.agreements current = 10 := Channel.commits_iff_agreements.1 hyes
    exact ⟨rfl, rfl, fun _ => ⟨rfl, rfl⟩, fun hne => absurd hten hne⟩
  · have hten : ch.agreements current ≠ 10 :=
      (Channel.commits_iff_agreements.not).1 (ne_true_of_eq_false hno)
    exact ⟨rfl, rfl, fun h => absurd h hten, fun _ => ⟨Channel.toNat_ofNat_agreements hcnt, rfl⟩⟩

theorem step_of_sample {btn1 btn2 : Bool} (h : s.env.nextSlot = .sample btn1 btn2) :
    step s = sampleEvent btn1 btn2 (s.setEnv s.env.dropSlot) := by
  rw [step, h, agentStep]

theorem sampleEvent_of_inRange (h : s.smpen = true) (h1 : s.ch1.inRange = true)
    (h2 : s.ch2.inRange = true) (btn1 btn2 : Bool) :
    sampleEvent btn1 btn2 s = .next (s.setChannels (s.ch1.dbStep btn1) (s.ch2.dbStep btn2)) := by
  simp [sampleEvent, h, h1, h2]

theorem sampleEvent_of_not_inRange (h : s.smpen = true)
    (hr : ¬ (s.ch1.inRange = true ∧ s.ch2.inRange = true)) (btn1 btn2 : Bool) :
    sampleEvent btn1 btn2 s = .refused .counterOutOfRange := by
  rw [sampleEvent, if_pos h, if_neg (by rwa [Bool.and_eq_true])]

/-- A masked SAMPLE event is a step that only takes its slot (R160, R169 (d)). -/
theorem step_of_masked_sample {btn1 btn2 : Bool} (h : s.env.nextSlot = .sample btn1 btn2)
    (hmasked : s.smpen = false) : step s = .next { s with env := s.env.dropSlot } :=
  (step_of_sample h).trans (sampleEvent_of_masked (s := s.setEnv s.env.dropSlot) hmasked btn1 btn2)

/-- Settles O27: the unmasked event on counts in range, and the masked event. -/
theorem sampleEventStepsBothChannels : Obligations.SampleEventStepsBothChannels := by
  intro s btn1 btn2 hslot
  refine ⟨fun hen h1 h2 => ?_, step_of_masked_sample hslot⟩
  exact (step_of_sample hslot).trans (sampleEvent_of_inRange (s := s.setEnv s.env.dropSlot) hen
    (Channel.inRange_iff.2 h1) (Channel.inRange_iff.2 h2) btn1 btn2)

/-- Settles O28: one of the two counts is out of range. -/
theorem sampleOutsideTheInvariantIsRefused : Obligations.SampleOutsideTheInvariantIsRefused := by
  intro s btn1 btn2 hslot hen hcnt
  have hr : ¬ (s.ch1.inRange = true ∧ s.ch2.inRange = true) := by
    simp only [Channel.inRange_iff]
    omega
  exact (step_of_sample hslot).trans
    (sampleEvent_of_not_inRange (s := s.setEnv s.env.dropSlot) hen hr btn1 btn2)

/-- Settles O29, by induction on the run: an unmasked sample of a state that meets R25 steps both channels
and gives another such state. -/
theorem channelsFollowTheirOwnPins : Obligations.ChannelsFollowTheirOwnPins := by
  intro pins
  induction pins with
  | nil => exact fun s _ _ => rfl
  | cons pin pins ih =>
    intro s hinv hen
    have hstep : agentStep (.sample pin.1 pin.2) s = _ :=
      sampleEvent_of_unmasked hen hinv pin.1 pin.2
    have hinv' : (s.setChannels (s.ch1.dbStep pin.1) (s.ch2.dbStep pin.2)).Inv :=
      ⟨Channel.dbStep_inv hinv.1.inRange pin.1, Channel.dbStep_inv hinv.2.inRange pin.2⟩
    rw [List.map_cons, runSlots_cons_of_next hstep, ih _ hinv' hen]
    rfl

end Sys2Proof.Machine
end

section
/-! PROOF. Runs of samples of one channel: a steady level, a change of level, a glitch, alternation, and
the history behind a commit (R167 to R170). -/

namespace Sys2Proof.Machine

variable {ch : Channel} {level : Bool}

@[simp] theorem Channel.samples_nil (ch : Channel) : ch.samples [] = ch := rfl

@[simp] theorem Channel.samples_cons (ch : Channel) (level : Bool) (levels : List Bool) :
    ch.samples (level :: levels) = (ch.dbStep level).samples levels := rfl

theorem Channel.samples_append (ch : Channel) (levels levels' : List Bool) :
    ch.samples (levels ++ levels') = (ch.samples levels).samples levels' := List.foldl_append

/-- R25 holds after every run of samples. -/
theorem Channel.Inv.samples (h : ch.Inv) (levels : List Bool) : (ch.samples levels).Inv := by
  induction levels generalizing ch with
  | nil => exact h
  | cons level levels ih => exact ih (Channel.dbStep_inv h.inRange level)

/-! ### A steady level -/

/-- The channel after n samples equal to PREV: CNT counts modulo 10, and the first wrap of it commits
(R168). -/
def Channel.afterSteady (ch : Channel) (n : Nat) : Channel :=
  ⟨ch.prev, ch.prev, BitVec.ofNat 4 ((ch.cnt.toNat + n) % 10),
    if 10 ≤ ch.cnt.toNat + n then ch.prev else ch.stable⟩

@[simp] theorem Channel.afterSteady_prev (ch : Channel) (n : Nat) : (ch.afterSteady n).prev = ch.prev :=
  rfl

@[simp] theorem Channel.afterSteady_cnt_toNat (ch : Channel) (n : Nat) :
    (ch.afterSteady n).cnt.toNat = (ch.cnt.toNat + n) % 10 := by
  simp only [Channel.afterSteady, BitVec.toNat_ofNat]
  omega

theorem Channel.afterSteady_zero (h : ch.Inv) : ch.afterSteady 0 = ch := by
  obtain ⟨hcnt, hraw⟩ := h
  have hlt : ch.cnt.toNat < 10 := Nat.lt_succ_of_le hcnt
  calc ch.afterSteady 0 = ⟨ch.prev, ch.prev, ch.cnt, ch.stable⟩ := by
        simp [Channel.afterSteady, Nat.mod_eq_of_lt hlt, Nat.not_le.2 hlt]
    _ = ⟨ch.raw, ch.prev, ch.cnt, ch.stable⟩ := by rw [hraw]

/-- One more sample of the steady level moves the count on by one, or commits at the tenth. -/
theorem Channel.dbStep_afterSteady (ch : Channel) (n : Nat) :
    (ch.afterSteady n).dbStep ch.prev = ch.afterSteady (n + 1) := by
  obtain ⟨hyes, heq⟩ | ⟨hno, heq⟩ := (ch.afterSteady n).dbStep_cases ch.prev <;> rw [heq]
  · have hnine : (ch.cnt.toNat + n) % 10 = 9 := by simpa [Channel.commits_iff] using hyes
    have hwrap : (ch.cnt.toNat + (n + 1)) % 10 = 0 := by omega
    have hle : 10 ≤ ch.cnt.toNat + (n + 1) := by omega
    simp [Channel.afterSteady, hwrap, hle]
  · have hnine : (ch.cnt.toNat + n) % 10 ≠ 9 := by
      simpa [Channel.commits_iff] using Bool.eq_false_iff.1 hno
    have hcount : (ch.cnt.toNat + n) % 10 + 1 = (ch.cnt.toNat + (n + 1)) % 10 := by omega
    have hle : 10 ≤ ch.cnt.toNat + n ↔ 10 ≤ ch.cnt.toNat + (n + 1) := by omega
    rw [Channel.agreements_of_agree (ch.afterSteady_prev n).symm, Channel.afterSteady_cnt_toNat, hcount]
    simp only [Channel.afterSteady, hle]

theorem Channel.samples_steady (h : ch.Inv) (n : Nat) :
    ch.samples (List.replicate n ch.prev) = ch.afterSteady n := by
  induction n with
  | zero => exact (Channel.afterSteady_zero h).symm
  | succ n ih =>
    rw [List.replicate_succ', Channel.samples_append, ih]
    exact Channel.dbStep_afterSteady ch n

/-- R168: a commit comes on every tenth step. -/
theorem Channel.commits_steady_iff (h : ch.Inv) (n : Nat) :
    (ch.samples (List.replicate n ch.prev)).commits ch.prev = true ↔
      (ch.cnt.toNat + n + 1) % 10 = 0 := by
  have hnine : (ch.cnt.toNat + n) % 10 = 9 ↔ (ch.cnt.toNat + n + 1) % 10 = 0 := by omega
  simp [Channel.samples_steady h, Channel.commits_iff, hnine]

/-! ### A change of level -/

/-- The channel after a sample that differs from PREV, whatever CNT was (R169). -/
def Channel.afterChange (ch : Channel) (level : Bool) : Channel := ⟨level, level, 0, ch.stable⟩

theorem Channel.dbStep_of_disagree (h : level ≠ ch.prev) : ch.dbStep level = ch.afterChange level := by
  simp [Channel.dbStep, Channel.commits_eq_false_of_disagree h, Channel.agreements_of_disagree h,
    Channel.afterChange]

theorem Channel.dbStep_not_prev (ch : Channel) :
    ch.dbStep (!ch.prev) = ch.afterChange !ch.prev :=
  Channel.dbStep_of_disagree (Bool.not_ne_self _)

theorem Channel.afterChange_inv (ch : Channel) (level : Bool) : (ch.afterChange level).Inv :=
  ⟨Nat.zero_le _, rfl⟩

/-- A new level that then holds for n more samples is a steady level from count 0. -/
theorem Channel.samples_change (h : level ≠ ch.prev) (n : Nat) :
    ch.samples (List.replicate (n + 1) level) = (ch.afterChange level).afterSteady n := by
  rw [List.replicate_succ, Channel.samples_cons, Channel.dbStep_of_disagree h]
  exact Channel.samples_steady (ch.afterChange_inv level) n

theorem Channel.commits_change_iff (h : level ≠ ch.prev) (n : Nat) :
    (ch.samples (List.replicate (n + 1) level)).commits level = true ↔ (n + 1) % 10 = 0 := by
  rw [List.replicate_succ, Channel.samples_cons, Channel.dbStep_of_disagree h]
  simpa [Channel.afterChange] using Channel.commits_steady_iff (ch.afterChange_inv level) n

/-- Settles O30: the change, and then the steady level for up to nine samples, and for ten. -/
theorem elevenIdenticalSamplesCommit : Obligations.ElevenIdenticalSamplesCommit := by
  intro ch level _ hne
  refine ⟨fun k hk => ?_, ?_⟩ <;> rw [Channel.samples_change hne.symm]
  · have hmod : k % 10 = k := Nat.mod_eq_of_lt (Nat.lt_succ_of_le hk)
    have hlt : ¬ 10 ≤ k := Nat.not_le.2 (Nat.lt_succ_of_le hk)
    simp [Channel.afterSteady, Channel.afterChange, hmod, hlt]
  · simp [Channel.afterSteady, Channel.afterChange]

/-- Settles O31: the steady level from any count, from reset, and after a change. -/
theorem steadyInputCommitsEveryTenthStep : Obligations.SteadyInputCommitsEveryTenthStep := by
  refine ⟨fun ch n hinv => ⟨Channel.samples_steady hinv n, Channel.commits_steady_iff hinv n⟩,
    fun n => ?_, fun ch n _ => Channel.commits_change_iff (Bool.not_ne_self _) n⟩
  simpa [Channel.reset] using Channel.commits_steady_iff Channel.reset_inv n

/-! ### Disagreements -/

/-- After a one-sample glitch the level is new again: the tenth sample after its return is the first
that can commit (R169). -/
theorem Channel.commits_glitch_iff (ch : Channel) {k : Nat} (hk : k ≤ 10) :
    (ch.samples ((!ch.prev) :: List.replicate k ch.prev)).commits ch.prev = true ↔ k = 10 := by
  have hback : ch.prev ≠ (ch.dbStep !ch.prev).prev := by simp
  rw [Channel.samples_cons]
  cases k with
  | zero =>
    rw [List.replicate_zero, Channel.samples_nil, Channel.commits_eq_false_of_disagree hback]
    simp
  | succ k =>
    rw [Channel.commits_change_iff hback]
    omega

/-- Every one of alternating samples is a disagreement (R169). -/
theorem Channel.samples_alternating (ch : Channel) (n : Nat) :
    (ch.samples (alternating (!ch.prev) (n + 1))).cnt = 0 ∧
    (ch.samples (alternating (!ch.prev) (n + 1))).stable = ch.stable := by
  induction n generalizing ch with
  | zero =>
    rw [alternating, Channel.samples_cons, Channel.dbStep_not_prev]
    exact ⟨rfl, rfl⟩
  | succ n ih =>
    rw [alternating, Channel.samples_cons, Channel.dbStep_not_prev]
    exact ih (ch.afterChange !ch.prev)

/-- Settles O32: the disagreement, the glitch, the alternation and the masked event. -/
theorem disagreementResetsTheCount : Obligations.DisagreementResetsTheCount :=
  ⟨fun _ _ h => ⟨Channel.dbStep_of_disagree h, Channel.commits_eq_false_of_disagree h⟩,
    fun ch _ hk => ch.commits_glitch_iff hk, Channel.samples_alternating,
    fun _ _ _ hmasked hslot => step_of_masked_sample hslot hmasked⟩

/-! ### The history behind a commit -/

theorem Channel.dbStep_cnt_le (ch : Channel) (level : Bool) :
    (ch.dbStep level).cnt.toNat ≤ ch.agreements level := by
  obtain ⟨-, heq⟩ | ⟨-, heq⟩ := ch.dbStep_cases level <;> rw [heq]
  · exact Nat.zero_le _
  · exact (BitVec.toNat_ofNat _ _).trans_le (Nat.mod_le _ _)

/-- A count of c has c + 1 equal samples behind it, the PREV of a channel that starts at count 0 being
the first sample of all. -/
theorem Channel.samples_suffix (h : ch.cnt = 0) (levels : List Bool) :
    List.replicate ((ch.samples levels).cnt.toNat + 1) (ch.samples levels).prev
      <:+ ch.prev :: levels := by
  induction levels using List.reverseRecOn with
  | nil => simp [h]
  | append_singleton levels level ih =>
    have hle := (ch.samples levels).dbStep_cnt_le level
    have hshorter : List.replicate (((ch.samples levels).dbStep level).cnt.toNat + 1) level
        <:+ List.replicate ((ch.samples levels).agreements level + 1) level :=
      List.suffix_replicate_iff.2 ⟨by simpa using hle, by simp⟩
    rw [Channel.samples_append, Channel.samples_cons, Channel.samples_nil, Channel.dbStep_prev]
    refine hshorter.trans ?_
    by_cases hagree : level = (ch.samples levels).prev
    · rw [Channel.agreements_of_agree hagree, List.replicate_succ', ← List.cons_append,
        List.suffix_append_self_iff]
      exact hagree ▸ ih
    · rw [Channel.agreements_of_disagree hagree]
      exact List.suffix_append (ch.prev :: levels) [level]

/-- Eleven samples of one level commit it at their last one at the latest (R170 (c)). -/
theorem Channel.samples_eleven_stable (h : ch.Inv) (level : Bool) :
    (ch.samples (List.replicate 11 level)).stable = level := by
  by_cases hagree : level = ch.prev
  · subst hagree
    rw [Channel.samples_steady h]
    simp [Channel.afterSteady]
  · rw [Channel.samples_change hagree]
    simp [Channel.afterSteady, Channel.afterChange]

/-- Settles O33: a commit has count 9, and so ten equal samples, behind it; eleven equal samples commit. -/
theorem stableFollowsALevelThatHolds : Obligations.StableFollowsALevelThatHolds := by
  refine ⟨fun older level hcommits => ⟨?_, ?_⟩, fun ch older level hinv => ?_⟩
  · obtain ⟨rfl, hnine⟩ := Channel.commits_iff.1 hcommits
    have hsuffix := Channel.samples_suffix (ch := Channel.reset) rfl older
    rw [hnine] at hsuffix
    obtain ⟨before, hbefore⟩ := hsuffix
    exact ⟨before, hbefore.symm⟩
  · rw [Channel.dbStep, if_pos hcommits]
  · rw [Channel.samples_append]
    exact Channel.samples_eleven_stable (hinv.samples older) level

end Sys2Proof.Machine
end

section
/-! PROOF. The four host operations of the debounce filter, and SNAPSHOT, whose masked events leave only
TICK changed between them (R162 to R166). -/

namespace Sys2Proof.Machine

variable {s u : State}

/-- RDBTN c of a channel (R162). -/
theorem exec_rdbtn {c : Nibble} {ch : Channel} (h : s.channelAt c = some ch) :
    exec (.rdbtn c) s = .next (s.respondOk (s.word (if ch.stable then 1 else 0))) := by
  rw [exec, execRdbtn, h, ← State.zext_ofBool]

/-- RDCH c of a channel (R163). -/
theorem exec_rdch {c : Nibble} {ch : Channel} (h : s.channelAt c = some ch) :
    exec (.rdch c) s = .next (s.respondOk (s.word ch.pack.toNat)) := by
  rw [exec, execRdch, h, ← State.zext_eq_word]

/-- Settles O34: RDBTN of each of the two channels. -/
theorem buttonReadRespondsTheStableLevel : Obligations.ButtonReadRespondsTheStableLevel :=
  fun s _ => ⟨exec_rdbtn s.channelAt_one, exec_rdbtn s.channelAt_two⟩

/-- The fields of the pack of RDCH (R163). -/
theorem Channel.pack_fields (ch : Channel) :
    ch.pack.getLsbD 0 = ch.stable ∧ ch.pack.getLsbD 1 = ch.prev ∧ ch.pack.getLsbD 2 = ch.raw ∧
    ch.pack.getLsbD 3 = false ∧ ch.pack.extractLsb' 4 4 = ch.cnt := by
  refine ⟨?_, ?_, ?_, ?_, ?cnt⟩
  case cnt =>
    ext i hi
    simp only [Channel.pack, BitVec.getLsbD_append, BitVec.getElem_extractLsb']
    rw [if_neg (by omega), if_neg (by omega), if_neg (by omega), if_neg (by omega),
      show 4 + i - 1 - 1 - 1 - 1 = i by omega, BitVec.getLsbD_eq_getElem hi]
  all_goals
    simp only [Channel.pack, BitVec.getLsbD_append]
    simp

/-- Settles O35: the byte is the channel's pack. -/
theorem channelReadRespondsThePack : Obligations.ChannelReadRespondsThePack := by
  intro s _ c ch hc
  have hch : s.channelAt c = some ch := by
    obtain ⟨rfl, rfl⟩ | ⟨rfl, rfl⟩ := hc
    · exact s.channelAt_one
    · exact s.channelAt_two
  exact ⟨ch.pack, exec_rdch hch, ch.pack_fields⟩

/-- Settles O37: the two arms of `exec`. -/
theorem sampleMaskIsClearedAndSet : Obligations.SampleMaskIsClearedAndSet :=
  fun _ _ => ⟨rfl, rfl⟩

/-! ### SNAPSHOT -/

/-- n TICK events add n to TICK, modulo 2^TICK_W, and change nothing else (R190, R195). -/
theorem tickEvent_iterate (s : State) (n : Nat) :
    tickEvent^[n] s = s.setTick (s.word (s.tick.bits.toNat + n)) := by
  rw [← State.increment_iterate_tick]
  induction n generalizing s with
  | zero => rfl
  | succ n ih => exact ih (tickEvent s)

/-- A state with the port free and the samples masked: of the agents other than the HOST and RESET only the
TICKER changes it. -/
def State.Quiet (s : State) : Prop := s.dseq = .idle ∧ s.smpen = false

/-- Slots of neither the HOST nor RESET leave a quiet state as it was, except for TICK (R120, R160,
R190). -/
theorem runSlots_of_quiet {slots : List Slot} (hquiet : s.Quiet) (hhost : .host ∉ slots)
    (hreset : .reset ∉ slots) : runSlots slots s = .next (tickEvent^[slots.count .tick] s) := by
  induction slots generalizing s with
  | nil => rfl
  | cons a slots ih =>
    obtain ⟨hidle, hmasked⟩ := hquiet
    have hhost' : .host ∉ slots := fun hmem => hhost (.tail _ hmem)
    have hreset' : .reset ∉ slots := fun hmem => hreset (.tail _ hmem)
    cases a with
    | host => exact absurd (.head _) hhost
    | reset => exact absurd (.head _) hreset
    | engine =>
      have hstep : agentStep .engine s = .next s :=
        congrArg Host.Outcome.next (engineStep_of_idle hidle)
      rw [runSlots_cons_of_next hstep, ih ⟨hidle, hmasked⟩ hhost' hreset']
      rfl
    | sample btn1 btn2 =>
      have hstep : agentStep (.sample btn1 btn2) s = .next s := sampleEvent_of_masked hmasked btn1 btn2
      rw [runSlots_cons_of_next hstep, ih ⟨hidle, hmasked⟩ hhost' hreset']
      rfl
    | tick =>
      rw [runSlots_cons_of_next (a := .tick) rfl, ih (s := tickEvent s) ⟨hidle, hmasked⟩ hhost' hreset',
        List.count_cons_self]
      rfl

/-- An operation that leaves a quiet state, and the gap after it. -/
theorem runSlots_operation_gap {i : Instr} {words : List OpWord} {gap : List Slot}
    (hidle : s.dseq = .idle) (hwf : i.wellFormed = true) (hwords : s.env.words = encode i :: words)
    (hexec : exec i (s.withWords words) = .next u) (hquiet : u.Quiet) (hhost : .host ∉ gap)
    (hreset : .reset ∉ gap) (rest : List Slot) :
    runSlots ((.host :: gap) ++ rest) s
      = runSlots rest (u.setTick (u.word (u.tick.bits.toNat + gap.count .tick))) := by
  have hissue : agentStep .host s = .next u := (hostStep_encode hidle hwf hwords).trans hexec
  rw [List.cons_append, runSlots_cons_of_next hissue,
    runSlots_append_of_next (runSlots_of_quiet hquiet hhost hreset), tickEvent_iterate]

/-- The state of a SNAPSHOT between two of its operations: the samples are masked, and beside TICK only the
words to come and the responses given have changed. -/
def State.inSnapshot (s : State) (words : List OpWord) (given : List Response) (ticks : Nat) : State :=
  { s with
    smpen := false
    tick := s.word ticks
    responses := given
    env := { s.env with words := words } }

/-- SMPDIS, and the gap after it. -/
theorem runSlots_snapshot_smpdis {words : List OpWord} {gap : List Slot} (hidle : s.dseq = .idle)
    (hwords : s.env.words = encode .smpdis :: words) (hhost : .host ∉ gap) (hreset : .reset ∉ gap)
    (rest : List Slot) :
    ∃ ticks, runSlots ((.host :: gap) ++ rest) s
      = runSlots rest (s.inSnapshot words (s.responses ++ [⟨.ok, s.word 0⟩]) ticks) :=
  ⟨_, runSlots_operation_gap hidle rfl hwords rfl ⟨hidle, rfl⟩ hhost hreset rest⟩

/-- RDBTN c, and the gap after it: STABLE is still as it stood at SMPDIS (R166). -/
theorem runSlots_snapshot_rdbtn {c : Nibble} {ch : Channel} {words : List OpWord}
    {given : List Response} {ticks : Nat} {gap : List Slot} (hidle : s.dseq = .idle)
    (hwf : (Instr.rdbtn c).wellFormed = true) (hch : s.channelAt c = some ch) (hhost : .host ∉ gap)
    (hreset : .reset ∉ gap) (rest : List Slot) :
    ∃ ticks', runSlots ((.host :: gap) ++ rest) (s.inSnapshot (encode (.rdbtn c) :: words) given ticks)
      = runSlots rest (s.inSnapshot words
          (given ++ [⟨.ok, s.word (if ch.stable then 1 else 0)⟩]) ticks') :=
  ⟨_, runSlots_operation_gap (s := s.inSnapshot _ given ticks) hidle hwf rfl (exec_rdbtn hch)
    ⟨hidle, rfl⟩ hhost hreset rest⟩

/-- SMPEN, the last one. -/
theorem runSlots_snapshot_smpen (hidle : s.dseq = .idle) (words : List OpWord)
    (given : List Response) (ticks : Nat) :
    runSlots [.host] (s.inSnapshot (encode .smpen :: words) given ticks) =
      .next ((s.inSnapshot words (given ++ [⟨.ok, s.word 0⟩]) ticks).setSmpen true) := by
  have hissue : agentStep .host (s.inSnapshot (encode .smpen :: words) given ticks) = .next _ :=
    hostStep_encode (i := .smpen) hidle rfl rfl
  rw [runSlots_cons_of_next hissue]
  rfl

/-- Settles O38: each of the first three operations with the gap after it, and then SMPEN. -/
theorem snapshotIsConsistent : Obligations.SnapshotIsConsistent := by
  intro s gap1 gap2 gap3 rest words hidle hwords hslots hhost hreset
  simp only [List.mem_append, not_or] at hhost hreset
  obtain ⟨⟨hhost1, hhost2⟩, hhost3⟩ := hhost
  obtain ⟨⟨hreset1, hreset2⟩, hreset3⟩ := hreset
  have hchosen : s.env.slots
      = ((.host :: gap1) ++ ((.host :: gap2) ++ ((.host :: gap3) ++ [.host]))) ++ rest := by
    simp [hslots]
  obtain ⟨_, hdis⟩ :=
    runSlots_snapshot_smpdis (s := s.withSlots rest) hidle hwords hhost1 hreset1 _
  obtain ⟨_, hbtn1⟩ := runSlots_snapshot_rdbtn (s := s.withSlots rest) hidle rfl
    (State.channelAt_one _) hhost2 hreset2 _
  obtain ⟨_, hbtn2⟩ := runSlots_snapshot_rdbtn (s := s.withSlots rest) hidle rfl
    (State.channelAt_two _) hhost3 hreset3 _
  have hall := (runSteps_of_slots hchosen).trans <| hdis.trans <| hbtn1.trans <| hbtn2.trans <|
    runSlots_snapshot_smpen (s := s.withSlots rest) hidle _ _ _
  refine ⟨_, (congrArg (runSteps · s) ?_).trans hall, ?_, rfl, rfl, rfl⟩
  · simp only [List.length_append, List.length_cons, List.length_nil]
    omega
  · exact (List.append_assoc _ _ _).trans <| (List.append_assoc _ _ _).trans <|
      List.append_assoc _ _ _

end Sys2Proof.Machine
end

section
/-! PROOF. The TICK event, RDTICK and CLRTICK, one at a time and next to each other (R190 to R192, R197). -/

namespace Sys2Proof.Machine

theorem step_of_tick {s : State} (h : s.env.nextSlot = .tick) :
    step s = .next (tickEvent (s.setEnv s.env.dropSlot)) := by
  rw [step, h, agentStep]

/-- Settles O39: the step is the TICK event, which writes TICK alone. -/
theorem tickEventIncrements : Obligations.TickEventIncrements :=
  fun s hslot => ⟨tickIncrement s.tick.bits, tickIncrement_toNat s.tick.bits, step_of_tick hslot⟩

/-- Settles O40: the two arms of `exec`. -/
theorem tickIsReadAndCleared : Obligations.TickIsReadAndCleared :=
  fun _ _ => ⟨rfl, rfl⟩

variable {s : State}

/-- One TICK event after the number n (R190). -/
theorem State.word_increment (s : State) (n : Nat) : (s.word n).increment = s.word (n + 1) :=
  congrArg (TickWord.mk s.tickW) (BitVec.ofNat_add n 1).symm

/-- The HOST's turn at a free port, when it issues CLRTICK (R192). -/
theorem hostStep_clrtick {words : List OpWord} (hidle : s.dseq = .idle)
    (hwords : s.env.words = encode .clrtick :: words) :
    hostStep s = .next (((s.withWords words).setTick (s.word 0)).respondZero) :=
  hostStep_encode hidle rfl hwords

theorem runSlots_clrtick_tick {words : List OpWord} (hidle : s.dseq = .idle)
    (hwords : s.env.words = encode .clrtick :: words) :
    ∃ t, runSlots [.host, .tick] s = .next t ∧ t.tick = s.word 1 := by
  rw [runSlots_cons_of_next (a := .host) (hostStep_clrtick hidle hwords)]
  exact ⟨_, rfl, s.word_increment 0⟩

theorem runSlots_tick_clrtick {words : List OpWord} (hidle : s.dseq = .idle)
    (hwords : s.env.words = encode .clrtick :: words) :
    ∃ t, runSlots [.tick, .host] s = .next t ∧ t.tick = s.word 0 := by
  have hissue := hostStep_clrtick (s := tickEvent s) hidle hwords
  rw [runSlots_cons_of_next (a := .tick) rfl, runSlots_cons_of_next (a := .host) hissue]
  exact ⟨_, rfl, rfl⟩

/-- R11: with the port free, the HOST's turn of a cycle comes before its TICK strobe. -/
theorem Cycle.slots_main_tick (h : s.dseq = .idle) :
    Cycle.slots ⟨false, true, none, true⟩ s.inFlight = [.host, .tick] := by
  rw [(s.inFlight_eq_false).2 h]
  rfl

/-- Settles O42: the two orders; the tie is the first of them. -/
theorem clearNearATick : Obligations.ClearNearATick := by
  intro s rest words hidle hwords
  have hclearFirst (hslots : s.env.slots = [.host, .tick] ++ rest) :
      ∃ t, runSteps 2 s = .next t ∧ t.tick = s.word 1 :=
    (runSteps_of_slots hslots).symm ▸ runSlots_clrtick_tick (s := s.withSlots rest) hidle hwords
  refine ⟨hclearFirst, fun hslots => ?_, fun hslots => ?_⟩
  · exact (runSteps_of_slots hslots).symm ▸
      runSlots_tick_clrtick (s := s.withSlots rest) hidle hwords
  · rw [Cycle.slots_main_tick hidle] at hslots
    exact hclearFirst hslots

end Sys2Proof.Machine
end

section
/-! PROOF. No agent writes TICK_W, and every response is a word of TICK_W bits (R95, R193). -/

namespace Sys2Proof.Machine

/-- TICK_W is kept, and no response is given or one of TICK_W bits. -/
def State.RespondsInTickW (s t : State) : Prop :=
  t.tickW = s.tickW ∧
  (t.responses = s.responses ∨ ∃ r, t.responses = s.responses ++ [r] ∧ r.data.width = s.tickW)

variable {s t : State}

theorem State.RespondsInTickW.mem_responses (h : s.RespondsInTickW t) {r : Response}
    (hr : r ∈ t.responses) : r ∈ s.responses ∨ r.data.width = s.tickW := by
  obtain ⟨-, hsame | ⟨new, hnew, hwidth⟩⟩ := h
  · exact .inl (hsame ▸ hr)
  · rw [hnew, List.mem_append, List.mem_singleton] at hr
    obtain hold | rfl := hr
    · exact .inl hold
    · exact .inr hwidth

theorem exec_respondsInTickW {i : Instr} (h : exec i s = .next t) : s.RespondsInTickW t := by
  cases i with
  | wrcmd _ | wrdata _ | rdstat _ | init => cases h; exact ⟨rfl, .inl rfl⟩
  | rdbtn c =>
    rw [exec, execRdbtn] at h
    split at h <;> cases h <;> exact ⟨rfl, .inr ⟨_, rfl, rfl⟩⟩
  | rdch c =>
    rw [exec, execRdch] at h
    split at h <;> cases h <;> exact ⟨rfl, .inr ⟨_, rfl, rfl⟩⟩
  | smpdis | smpen | rdtick | clrtick => cases h; exact ⟨rfl, .inr ⟨_, rfl, rfl⟩⟩

theorem hostStep_respondsInTickW (h : hostStep s = .next t) : s.RespondsInTickW t := by
  obtain ⟨-, rfl⟩ | ⟨-, hissue⟩ := hostStep_cases h
  · exact ⟨rfl, .inl rfl⟩
  · obtain ⟨i, -, hexec⟩ | ⟨-, rfl⟩ := issueWord_cases hissue
    · exact exec_respondsInTickW (s := s.setEnv s.env.dropWord) hexec
    · exact ⟨rfl, .inr ⟨_, rfl, rfl⟩⟩

theorem engineStep_respondsInTickW (s : State) : s.RespondsInTickW (engineStep s) := by
  obtain ⟨-, h⟩ | ⟨-, h⟩ | ⟨-, h⟩ | ⟨-, h⟩ | ⟨k, hk, -, h⟩ | ⟨-, h⟩ := engineStep_cases s
    <;> rw [h]
  · exact ⟨rfl, .inl rfl⟩
  · exact ⟨rfl, .inl rfl⟩
  · exact ⟨rfl, .inr ⟨_, rfl, rfl⟩⟩
  · exact ⟨rfl, .inr ⟨_, rfl, rfl⟩⟩
  · exact ⟨rfl, .inl rfl⟩
  · exact ⟨rfl, .inr ⟨_, rfl, rfl⟩⟩

theorem step_respondsInTickW (h : step s = .next t) : s.RespondsInTickW t := by
  obtain ⟨-, hh⟩ | ⟨-, rfl⟩ | ⟨_, _, -, hs⟩ | ⟨-, rfl⟩ | ⟨-, rfl⟩ := step_cases h
  · exact hostStep_respondsInTickW (s := s.setEnv s.env.dropSlot) hh
  · exact engineStep_respondsInTickW (s.setEnv s.env.dropSlot)
  · obtain ⟨-, rfl⟩ | ⟨-, -, -, rfl⟩ := sampleEvent_next hs <;> exact ⟨rfl, .inl rfl⟩
  · exact ⟨rfl, .inl rfl⟩
  · exact ⟨rfl, .inl rfl⟩

/-- Settles O50: the default is a legal one, and TICK_W is kept whoever's turn it is. -/
theorem tickWidthIsAParameter : Obligations.TickWidthIsAParameter := by
  refine ⟨rfl, tickWMin_le_default, fun s t h => ?_⟩
  have hwidth : t.tickW = s.tickW := (step_respondsInTickW h).1
  refine ⟨hwidth, fun hlegal => ?_, fun _ => (step_respondsInTickW h).mem_responses⟩
  rwa [State.legalTickW, hwidth]

end Sys2Proof.Machine
end

section
/-! PROOF. From every state of R25 every agent has its step, and a step uses up one slot and at most one
word. -/

namespace Sys2Proof.Machine

variable {s t : State}

theorem hostStep_answers_next (s : State) : ∃ t, hostStep s = .next t := by
  by_cases h : s.dseq = .idle
  · rw [hostStep_of_idle h]
    exact issueWord_answers_next _ _
  · exact ⟨s, hostStep_of_inFlight h⟩

/-- No agent's step is refused in a state that meets R25 (R171, R214). -/
theorem agentStep_answers_next (hinv : s.Inv) (a : Slot) : ∃ t, agentStep a s = .next t := by
  cases a with
  | host => exact hostStep_answers_next s
  | sample btn1 btn2 => exact ⟨_, agentStep_of_periodic rfl hinv⟩
  | engine | tick | reset => exact ⟨_, rfl⟩

theorem step_answers_next (hinv : s.Inv) : ∃ t, step s = .next t :=
  agentStep_answers_next (s := s.setEnv s.env.dropSlot) hinv _

/-- What is left to come after a step: one slot less, and the words as they were, or at the HOST's turn
one word less (R38). -/
def State.UsesOneTurn (s t : State) : Prop :=
  t.env.slots = s.env.slots.tail ∧
  (t.env.words = s.env.words ∨ s.env.nextSlot = .host ∧ t.env.words = s.env.words.tail)

theorem exec_env {i : Instr} (h : exec i s = .next t) : t.env = s.env := by
  obtain ⟨_, _, rfl⟩ | ⟨-, rfl⟩ | ⟨-, rfl⟩ | ⟨-, rfl⟩ | ⟨_, _, rfl⟩ | ⟨_, -, rfl⟩ | ⟨-, rfl⟩ :=
    exec_cases h <;> rfl

/-- The HOST takes from the environment the word it issues, and nothing at a turn that passes. -/
theorem hostStep_env (h : hostStep s = .next t) : t.env = s.env ∨ t.env = s.env.dropWord := by
  obtain ⟨-, rfl⟩ | ⟨-, hissue⟩ := hostStep_cases h
  · exact .inl rfl
  · obtain ⟨i, -, hexec⟩ | ⟨-, rfl⟩ := issueWord_cases hissue
    · exact .inr (exec_env hexec)
    · exact .inr rfl

/-- The engine takes from the environment the answer to a bus read at most. -/
theorem engineStep_env (s : State) :
    (engineStep s).env = s.env ∨ (engineStep s).env = s.env.dropAnswer := by
  obtain ⟨-, h⟩ | ⟨-, h⟩ | ⟨-, h⟩ | ⟨-, h⟩ | ⟨k, hk, -, h⟩ | ⟨-, h⟩ := engineStep_cases s
    <;> rw [h]
  · exact .inl rfl
  · exact .inr rfl
  · exact .inl rfl
  · exact .inr rfl
  · exact .inl rfl
  · exact .inl rfl

theorem sampleEvent_env {btn1 btn2 : Bool} (h : sampleEvent btn1 btn2 s = .next t) :
    t.env = s.env := by
  obtain ⟨-, rfl⟩ | ⟨-, -, -, rfl⟩ := sampleEvent_next h <;> rfl

theorem step_usesOneTurn (h : step s = .next t) : s.UsesOneTurn t := by
  unfold State.UsesOneTurn
  obtain ⟨hslot, hh⟩ | ⟨-, rfl⟩ | ⟨_, _, -, hs⟩ | ⟨-, rfl⟩ | ⟨-, rfl⟩ := step_cases h
  · obtain henv | henv := hostStep_env hh <;> simp [henv, hslot]
  · obtain henv | henv := engineStep_env (s.setEnv s.env.dropSlot) <;> simp [henv]
  · simp [sampleEvent_env hs]
  · simp [tickEvent]
  · simp [Env.draw]

end Sys2Proof.Machine
end

section
/-! PROOF. TICK over a run without RESET and CLRTICK: by its writers (R73), only the TICK events of the run
change it (R194, R195). -/

namespace Sys2Proof.Machine

variable {s t : State} {slots rest : List Slot} {a : Slot}

/-- The chosen words last for the HOST's turns of the schedule, and none of them is CLRTICK's. -/
def State.IssuesNoClear (s : State) (slots : List Slot) : Prop :=
  slots.count .host ≤ s.env.words.length ∧ ∀ w ∈ s.env.words, decode w ≠ .ok .clrtick

/-- The word that the HOST issues at the next turn is one of them. -/
theorem State.IssuesNoClear.decode_nextWord (h : s.IssuesNoClear (.host :: slots)) :
    decode s.env.dropSlot.nextWord ≠ .ok .clrtick := by
  obtain ⟨hcount, hclear⟩ := h
  rw [List.count_cons_self] at hcount
  obtain ⟨w, words, hwords⟩ := List.exists_cons_of_length_pos (Nat.zero_lt_of_lt hcount)
  rw [Env.nextWord_of_cons _ ((Env.dropSlot_words _).trans hwords)]
  exact hclear w (hwords ▸ .head _)

theorem State.IssuesNoClear.of_step (h : s.IssuesNoClear (a :: slots)) (hslot : s.env.nextSlot = a)
    (hstep : step s = .next t) : t.IssuesNoClear slots := by
  obtain ⟨hcount, hclear⟩ := h
  unfold State.IssuesNoClear
  obtain ⟨-, hwords | ⟨hhost, hwords⟩⟩ := step_usesOneTurn hstep <;> rw [hwords]
  · exact ⟨List.count_le_count_cons.trans hcount, hclear⟩
  · obtain rfl : a = .host := hslot.symm.trans hhost
    rw [List.count_cons_self] at hcount
    exact ⟨by rw [List.length_tail]; omega, fun w hw => hclear w (List.mem_of_mem_tail hw)⟩

/-- A step of such a run adds one to TICK if it is a TICK event, and keeps TICK else (R73, R190). -/
theorem step_tick_of_issuesNoClear (h : s.IssuesNoClear (a :: slots)) (hslot : s.env.nextSlot = a)
    (hreset : a ≠ .reset) (hstep : step s = .next t) :
    t.tick = TickWord.increment^[if a == .tick then 1 else 0] s.tick := by
  by_cases htick : a = .tick
  · subst htick
    cases (step_of_tick hslot).symm.trans hstep
    rfl
  · rw [if_neg (by simpa using htick)]
    by_contra hne
    obtain hw | hw | ⟨hw, -, hdecode⟩ := step_tick_writer hstep hne <;> cases hslot.symm.trans hw
    · exact hreset rfl
    · exact htick rfl
    · exact h.decode_nextWord hdecode

/-- Over such a run TICK is incremented once for every TICK event (R195). -/
theorem runSteps_tick (hinv : s.Inv) (hslots : s.env.slots = slots ++ rest) (hreset : .reset ∉ slots)
    (hclear : s.IssuesNoClear slots) :
    ∃ t, runSteps slots.length s = .next t ∧
      t.tick = TickWord.increment^[slots.count .tick] s.tick := by
  induction slots generalizing s with
  | nil => exact ⟨s, rfl, rfl⟩
  | cons a slots ih =>
    have hslot : s.env.nextSlot = a := Env.nextSlot_of_cons _ hslots
    obtain ⟨hne, hrest⟩ := List.ne_and_not_mem_of_not_mem_cons hreset
    obtain ⟨u, hstep⟩ := step_answers_next hinv
    obtain ⟨huslots, -⟩ := step_usesOneTurn hstep
    rw [hslots, List.cons_append, List.tail_cons] at huslots
    obtain ⟨t, hrun, htick⟩ := ih (everyStepKeepsTheChannelInvariant s u hinv hstep) huslots hrest
      (hclear.of_step hslot hstep)
    refine ⟨t, (runSteps_succ_of_next hstep _).trans hrun, ?_⟩
    rw [htick, step_tick_of_issuesNoClear hclear hslot hne.symm hstep, ← Function.iterate_add_apply,
      List.count_cons]

/-- The difference of two readings is exact modulo m, across a wrap too (R195). -/
theorem add_mod_sub_mod {x m : Nat} (h : x < m) (n : Nat) : ((x + n) % m + m - x) % m = n % m := by
  rw [Nat.add_sub_assoc h.le, Nat.mod_add_mod, show x + n + (m - x) = n + m by omega, Nat.add_mod_right]

/-- Settles O41: the increments of the run add the number of its TICK events to TICK. -/
theorem tickCountsTheEvents : Obligations.TickCountsTheEvents := by
  intro s slots rest hinv hslots hreset hcount hclear
  obtain ⟨t, hrun, htick⟩ := runSteps_tick hinv hslots hreset ⟨hcount, hclear⟩
  rw [State.increment_iterate_tick] at htick
  refine ⟨t, hrun, ?_, ?_, fun hzero => ?_⟩ <;> rw [htick]
  · exact State.word_width s _
  · rw [State.word_toNat]
    exact add_mod_sub_mod s.tick.bits.isLt _
  · rw [State.word_toNat, hzero]
    simp

end Sys2Proof.Machine
end

section
/-! PROOF. Every run from a state that meets R25 goes on for ever (R210, R214). -/

namespace Sys2Proof.Machine

/-- Settles O8, by induction on the number of steps: a state that meets R25 has its step, and the step
answers such a state again. -/
theorem runsNeverStop : Obligations.RunsNeverStop := by
  intro n
  induction n with
  | zero => exact fun s hinv => ⟨s, runSteps_zero s, hinv⟩
  | succ n ih =>
    intro s hinv
    obtain ⟨u, hstep⟩ := step_answers_next hinv
    rw [runSteps_succ_of_next hstep]
    exact ih u (everyStepKeepsTheChannelInvariant s u hinv hstep)

end Sys2Proof.Machine
end

section
/-! PROOF. Executions under the progress assumptions of R12: an operation that never polls takes one
micro-step after another until it is answered, since between two of them nothing moves it (R214). -/

namespace Sys2Proof.Machine

/-- While an operation is in flight only the ENGINE and RESET move DSEQ, and nobody else responds: the
HOST's turn passes, and the events touch neither (R32, R134). -/
theorem agentStep_keeps_inFlight {a : Slot} {s t : State} (h : agentStep a s = .next t)
    (hbusy : s.dseq ≠ .idle) (hengine : a ≠ .engine) (hreset : a ≠ .reset) :
    t.dseq = s.dseq ∧ t.responses = s.responses := by
  cases a with
  | host => cases (hostStep_of_inFlight hbusy).symm.trans h; exact ⟨rfl, rfl⟩
  | engine => exact absurd rfl hengine
  | sample btn1 btn2 =>
    obtain ⟨-, rfl⟩ | ⟨-, -, -, rfl⟩ := sampleEvent_next h <;> exact ⟨rfl, rfl⟩
  | tick => cases h; exact ⟨rfl, rfl⟩
  | reset => exact absurd rfl hreset

/-- READ and INIT(8) are last micro-steps: IDLE, and the one response (R127, R130). -/
theorem engineStep_of_last {s : State} (h : s.dseq = .read ∨ s.dseq = .init 8) :
    (engineStep s).dseq = .idle ∧
      ∃ data, (engineStep s).responses = s.responses ++ [⟨.ok, data⟩] := by
  obtain h | h := h
  · rw [engineStep_of_read h]
    exact ⟨rfl, _, rfl⟩
  · rw [engineStep_of_init h, initStep_last]
    exact ⟨rfl, _, rfl⟩

/-- INIT(k) before the last goes on to INIT(k+1), without a response (R130). -/
theorem engineStep_of_init_castSucc {s : State} {k : Fin 8} (h : s.dseq = .init k.castSucc) :
    (engineStep s).dseq = .init k.succ ∧ (engineStep s).responses = s.responses := by
  rw [engineStep_of_init h, initStep_of_lt k.isLt]
  exact ⟨rfl, rfl⟩

/-- After place n the execution comes to IDLE, with one response OK added by then. -/
def CompletesAfter (run : Nat → State) (n : Nat) : Prop :=
  ∃ m data, n < m ∧ (run m).dseq = .idle ∧
    (run m).responses = (run n).responses ++ [⟨.ok, data⟩]

variable {schedule : Nat → Slot} {run : Nat → State} {n m : Nat}

/-- An execution that completes after a later place with the same responses completes after this one. -/
theorem CompletesAfter.of_le (h : CompletesAfter run m) (hle : n ≤ m)
    (hresp : (run m).responses = (run n).responses) : CompletesAfter run n := by
  obtain ⟨l, data, hlt, hidle, hdone⟩ := h
  exact ⟨l, data, hle.trans_lt hlt, hidle, hresp ▸ hdone⟩

theorem run_succ_of_engine (hexec : isExecution schedule run) (hslot : schedule n = .engine) :
    run (n + 1) = engineStep (run n) := by
  have hstep := hexec n
  rw [hslot] at hstep
  exact (Host.Outcome.next.inj hstep).symm

section
variable (hfair : fairExecution schedule run) (hreset : withoutReset schedule)
include hfair hreset

/-- R12: the ENGINE has its turn, and finds the operation in flight as it stood. -/
theorem exists_engineTurn (hbusy : (run n).dseq ≠ .idle) :
    ∃ m, n ≤ m ∧ run (m + 1) = engineStep (run m) ∧
      (run m).dseq = (run n).dseq ∧ (run m).responses = (run n).responses := by
  obtain ⟨hexec, -, hprogress⟩ := hfair
  obtain ⟨_, hle, hturn⟩ := hprogress n hbusy
  obtain ⟨wait, rfl⟩ := Nat.exists_eq_add_of_le hle
  clear hle
  induction wait generalizing n with
  | zero => exact ⟨n, le_rfl, run_succ_of_engine hexec (hturn.resolve_right hbusy), rfl, rfl⟩
  | succ wait ih =>
    by_cases hslot : schedule n = .engine
    · exact ⟨n, le_rfl, run_succ_of_engine hexec hslot, rfl, rfl⟩
    · obtain ⟨hdseq, hresp⟩ := agentStep_keeps_inFlight (hexec n) hbusy hslot (hreset n)
      rw [← Nat.add_assoc, Nat.add_right_comm] at hturn
      obtain ⟨m, hle, hrun, hdseq', hresp'⟩ := ih (hdseq ▸ hbusy) hturn
      exact ⟨m, Nat.le_of_succ_le hle, hrun, hdseq'.trans hdseq, hresp'.trans hresp⟩

theorem completesAfter_of_last (h : (run n).dseq = .read ∨ (run n).dseq = .init 8) :
    CompletesAfter run n := by
  have hbusy : (run n).dseq ≠ .idle := by obtain h | h := h <;> simp [h]
  obtain ⟨m, hle, hrun, hdseq, hresp⟩ := exists_engineTurn hfair hreset hbusy
  obtain ⟨hidle, data, hdone⟩ := engineStep_of_last (hdseq ▸ h)
  exact ⟨m + 1, data, Nat.lt_succ_of_le hle, hrun ▸ hidle, by rw [hrun, hdone, hresp]⟩

/-- INIT from its last micro-step back: each one leaves an execution that completes. -/
theorem completesAfter_of_init {k : Fin 9} (h : (run n).dseq = .init k) : CompletesAfter run n := by
  induction k using Fin.reverseInduction generalizing n with
  | last => exact completesAfter_of_last hfair hreset (.inr h)
  | cast k ih =>
    obtain ⟨m, hle, hrun, hdseq, hresp⟩ := exists_engineTurn hfair hreset (n := n) (by simp [h])
    obtain ⟨hnext, hnone⟩ := engineStep_of_init_castSucc (hdseq.trans h)
    rw [← hrun] at hnext hnone
    exact (ih hnext).of_le (Nat.le_succ_of_le hle) (hnone.trans hresp)

end

/-- Settles O49: RDSTAT has one micro-step to come, INIT at most nine, and R12 gives each its turn. -/
theorem statusReadAndInitComplete : Obligations.StatusReadAndInitComplete := by
  rintro schedule run n hfair hreset (hread | ⟨k, hinit⟩)
  · exact completesAfter_of_last hfair hreset (.inl hread)
  · exact completesAfter_of_init hfair hreset hinit

end Sys2Proof.Machine
end

section
/-! PROOF. The two periodic events commute (R219), and the slots of a clock cycle (R11, R219). -/

namespace Sys2Proof.Machine

/-- R173, R199: SAMPLE neither reads nor writes TICK, so it does the same before and after a TICK. -/
theorem sampleEvent_tickEvent (btn1 btn2 : Bool) (s : State) :
    sampleEvent btn1 btn2 (tickEvent s) = onNext tickEvent (sampleEvent btn1 btn2 s) := by
  unfold sampleEvent
  rw [apply_ite (onNext _), apply_ite (onNext _)]
  rfl

theorem runSlots_singleton (a : Slot) (s : State) : runSlots [a] s = agentStep a s := by
  unfold runSlots
  cases agentStep a s <;> rfl

theorem runSlots_tick_last (a : Slot) (s : State) :
    runSlots [a, .tick] s = onNext tickEvent (agentStep a s) := by
  unfold runSlots
  cases agentStep a s <;> rfl

theorem runSlots_sample_tick_comm (s : State) (btn1 btn2 : Bool) :
    runSlots [.sample btn1 btn2, .tick] s = runSlots [.tick, .sample btn1 btn2] s :=
  calc runSlots [.sample btn1 btn2, .tick] s
    _ = onNext tickEvent (sampleEvent btn1 btn2 s) := runSlots_tick_last _ s
    _ = sampleEvent btn1 btn2 (tickEvent s) := (sampleEvent_tickEvent btn1 btn2 s).symm
    _ = runSlots [.sample btn1 btn2] (tickEvent s) := (runSlots_singleton (.sample btn1 btn2) _).symm

/-- In a cycle only the main flow gives the HOST its turn, and only while the port is free (R9). -/
theorem Cycle.main_of_host_mem_slots {c : Cycle} {inFlight : Bool} (h : .host ∈ c.slots inFlight) :
    c.main = true ∧ inFlight = false := by
  obtain ⟨reset, main, sample, tick⟩ := c
  cases reset with
  | true => simp [Cycle.slots] at h
  | false => rcases sample with _ | ⟨btn1, btn2⟩ <;> simpa [Cycle.slots, and_comm] using h

/-- The turn of the main flow comes before the events of its cycle (R11). -/
theorem Cycle.slots_of_main {c : Cycle} (hreset : c.reset = false) (hmain : c.main = true)
    (inFlight : Bool) : c.slots inFlight
      = (if inFlight then .engine else .host) :: Cycle.slots { c with main := false } inFlight := by
  simp [Cycle.slots, hreset, hmain]

/-- Settles O47: the events commute by the one equation, and the HOST's turn in a cycle is the main
flow's at a free port. -/
theorem eventsCommuteAndResetWins : Obligations.EventsCommuteAndResetWins := by
  refine ⟨runSlots_sample_tick_comm, fun c _ hreset => if_pos hreset, fun c hreset hmain => ?_⟩
  rw [Cycle.slots_of_main hreset hmain false]
  exact ⟨rfl, fun hmem => Bool.false_ne_true (Cycle.main_of_host_mem_slots hmem).1,
    fun hmem => Bool.false_ne_true (Cycle.main_of_host_mem_slots hmem).2.symm⟩

end Sys2Proof.Machine
end

section
/-! PROOF. The RESET event at its slot (R250, R251). -/

namespace Sys2Proof.Machine

theorem step_of_reset {s : State} (h : s.env.nextSlot = .reset) :
    step s = .next (resetEvent (s.setEnv s.env.dropSlot)) := by
  rw [step, h, agentStep]

/-- Settles O43: the step at a RESET slot is the RESET event, which draws DARG and DADDR from the free
values (R251). -/
theorem resetEventRestoresTheRegisters : Obligations.ResetEventRestoresTheRegisters :=
  fun s hslot => ⟨Config.freeDarg s.env.dropSlot.fresh, Config.freeDaddr s.env.dropSlot.fresh,
    step_of_reset hslot⟩

end Sys2Proof.Machine
end
